-- ==== Sys2Proof/Word.lean ====
section
/-! DEFINITION. The word types of the display command sequencer. -/

namespace Sys2Proof

/-- One byte of the transport stream, of host memory, or an 8-bit operand (R12, R55). -/
abbrev Byte := BitVec 8

/-- A 16-bit value: a coordinate, an extent, a colour, a buffer element (R12). -/
abbrev Half := BitVec 16

/-- A request word, a status register, a host byte address (R45, R63). -/
abbrev Word := BitVec 32

end Sys2Proof
end

