-- ==== Sys2Proof/Config.lean ====
section
/-! DEFINITION. The parameters of the block (00_scope.md R10): what is fixed for a run and changed by no request (R21).

They are a structure that State carries in a field no step writes, so that a statement about every state is a statement
about every choice of the parameters (93_implementation_defined.md part 3: claims are stated over the named parameter,
never over its default). -/

namespace Sys2Proof

/-- `WaitKind` of R36: the two waits of the initialization table. -/
inductive WaitKind where
  | resetWait
  | sleepOutWait
deriving DecidableEq, Repr

/-- An entry of `INIT_TABLE` (R98). -/
inductive InitEntry where
  | cmd (op : Byte) (params : List Byte)
  | wait (k : WaitKind)
deriving DecidableEq, Repr

/-- `PUSH_PIXEL_ORDER` (R10, R51). -/
inductive PixelOrder where
  | hiFirst
  | loFirst
deriving DecidableEq, Repr

/-- `HOST_BYTE_ORDER` (R10, R52). -/
inductive HostByteOrder where
  | little
  | big
deriving DecidableEq, Repr

/-- The parameter table of R10, one field per row (the two physical extents are `Config.physW` and `Config.physH`).
`tResetWait` and `tSlpoutWait` are durations that no rule reads (R100, R161, D30). -/
structure Config where
  opSwreset : Byte
  opSlpout : Byte
  opDispon : Byte
  opCaset : Byte
  opPaset : Byte
  opRamwr : Byte
  opMadctl : Byte
  madctlRot0 : Byte
  madctlRot1 : Byte
  madctlRot2 : Byte
  madctlRot3 : Byte
  initTable : List InitEntry
  tResetWait : Nat
  tSlpoutWait : Nat
  pushPixelOrder : PixelOrder
  hostByteOrder : HostByteOrder
deriving DecidableEq, Repr

/-- `PHYS_W` = 240, the portrait width, a value of the source (R10, R11). -/
def Config.physW : Half := 240

/-- `PHYS_H` = 320, the portrait height, a value of the source (R10, R11). -/
def Config.physH : Half := 320

/-- PRESUMED (log entry 3): EX_INIT of 95_test_vectors.md section 0, an example of a table R98 admits.
R98 leaves the contents of `INIT_TABLE` open. -/
def Config.exInitTable : List InitEntry :=
  [.cmd 0x01 [], .wait .resetWait,
   .cmd 0xC0 [0x23], .cmd 0xC1 [0x10], .cmd 0xC5 [0x3E, 0x28], .cmd 0xC7 [0x86],
   .cmd 0x36 [0x48], .cmd 0x3A [0x55], .cmd 0xB1 [0x00, 0x18]] ++
  [.cmd 0xE0 [0x0F, 0x31, 0x2B, 0x0C, 0x0E, 0x08, 0x4E, 0xF1, 0x37, 0x07, 0x10, 0x03, 0x0E, 0x09, 0x00],
   .cmd 0xE1 [0x00, 0x0E, 0x14, 0x03, 0x11, 0x07, 0x31, 0xC1, 0x48, 0x08, 0x0F, 0x0C, 0x31, 0x36, 0x0F],
   .cmd 0xB6 [0x08, 0x82, 0x27],
   .cmd 0x11 [], .wait .sleepOutWait, .cmd 0x29 []]

/-- The defaults of R10 (GK1 to GK9), with EX_INIT for the open table and the typical durations of 93, in milliseconds,
for the two durations no rule reads. PRESUMED (log entries 2, 3 and 4); no statement over all states rests on them. -/
def Config.default : Config where
  opSwreset := 0x01
  opSlpout := 0x11
  opDispon := 0x29
  opCaset := 0x2A
  opPaset := 0x2B
  opRamwr := 0x2C
  opMadctl := 0x36
  madctlRot0 := 0x48
  madctlRot1 := 0x28
  madctlRot2 := 0x88
  madctlRot3 := 0xE8
  initTable := Config.exInitTable
  tResetWait := 5
  tSlpoutWait := 120
  pushPixelOrder := .hiFirst
  hostByteOrder := .little

end Sys2Proof
end

