-- ==== Sys2Proof/Syntax.lean ====
section
/-! DEFINITION. The requests of the block: one constructor per row of spec/opcode_table.json, in the table's order,
with the operand widths of R12 and R67. -/

namespace Sys2Proof

/-- A decoded request (R69). The mnemonics of the table are the operation names of the source.
`initialise` is the row the table spells with a z, which is a reserved word of Lean. -/
inductive Instr where
  | initialise
  | setRotation (mode : Byte)
  | setCursor (x y : Half)
  | writeText (fontsize : Byte) (textaddr : Word)
  | pushPixels (x y w h : Half) (buf : Word)
  | writePixel (color : Half)
  | writeColor (color : Half) (count : Word)
  | setAddrWindow (x y w h : Half)
  | writeFillRect (x y w h : Half) (color : Half)
  | dcInit
  | dcLow
  | dcHigh
  | writeCommand (opcode : Byte)
  | spiWrite (byte : Byte)
deriving DecidableEq, Repr

end Sys2Proof
end

