-- ==== Sys2Proof/WellFormed.lean ====
section
/-! DEFINITION. Well-formedness: of a request (R12, R68) and of the parameters (R10, R98, R102). -/

namespace Sys2Proof

/-- Every decoded request is well formed: the operand types carry the widths of R12, and R68 checks no operand value
("Operand values are not checked at decode time"). The checks on the raw words are the decoder's (R70, R71), and those on
a literal of the assembler language are `Machine.Operand.value`'s (R80). -/
def Instr.wf : Instr → Bool
  | .initialise => true
  | .setRotation _ => true
  | .setCursor _ _ => true
  | .writeText _ _ => true
  | .pushPixels _ _ _ _ _ => true
  | .writePixel _ => true
  | .writeColor _ _ => true
  | .setAddrWindow _ _ _ _ => true
  | .writeFillRect _ _ _ _ _ => true
  | .dcInit => true
  | .dcLow => true
  | .dcHigh => true
  | .writeCommand _ => true
  | .spiWrite _ => true

/-- The seven `OP_*` values, in the order of R10. -/
def Config.ops (c : Config) : List Byte :=
  [c.opSwreset, c.opSlpout, c.opDispon, c.opCaset, c.opPaset, c.opRamwr, c.opMadctl]

/-- R10: "The seven `OP_*` values must be pairwise distinct". -/
def Config.distinctOps (c : Config) : Bool := decide c.ops.Nodup

/-- The entries of the table between its first two and its last three (R98 item 4). -/
def Config.initMiddle (c : Config) : List InitEntry := (c.initTable.drop 2).dropLast.dropLast.dropLast

/-- R98 items 1 and 2: the software reset, then the reset wait. -/
def Config.startsWithReset (c : Config) : Bool :=
  match c.initTable.take 2 with
  | [.cmd op _, .wait .resetWait] => op == c.opSwreset
  | _ => false

/-- R98 item 3: sleep-out, its wait, display-on, as the last three entries (none of them one of the first two). -/
def Config.endsWithDisplayOn (c : Config) : Bool :=
  match (c.initTable.drop 2).reverse.take 3 with
  | [.cmd on _, .wait .sleepOutWait, .cmd out _] => on == c.opDispon && out == c.opSlpout
  | _ => false

/-- R98 item 4 and the "no `Wait`" of item 5: every middle entry is a command. -/
def Config.middleIsCommands (c : Config) : Bool :=
  c.initMiddle.all fun e =>
    match e with
    | .cmd _ _ => true
    | .wait _ => false

/-- R98 item 5: no middle command is one of the six opcodes the rule excludes. -/
def Config.middleAvoids (c : Config) : Bool :=
  c.initMiddle.all fun e =>
    match e with
    | .cmd op _ => !([c.opSwreset, c.opSlpout, c.opDispon, c.opCaset, c.opPaset, c.opRamwr].contains op)
    | .wait _ => true

/-- R98 item 4: a memory-access-control entry has "exactly one parameter byte". -/
def Config.madctlHasOneByte (c : Config) : Bool :=
  c.initTable.all fun e =>
    match e with
    | .cmd op ps => op != c.opMadctl || ps.length == 1
    | .wait _ => true

/-- The parameter byte of a memory-access-control entry. -/
def Config.madctlParam (c : Config) : InitEntry → Option Byte
  | .cmd op [m] => if op = c.opMadctl then some m else none
  | .cmd _ _ => none
  | .wait _ => none

/-- R98 item 4, as far as the spec lets it be checked (DEDUCED, log entry 5): the spec gives no opcode for the other
purposes, so what can be said is that a one-parameter memory-access-control command stands in the middle with at least
two commands before it (power control, VCOM) and at least five after it (pixel format, frame rate, two gamma tables,
display function control). -/
def Config.middleHasPurposes (c : Config) : Bool :=
  (List.range c.initMiddle.length).any fun k =>
    decide (2 ≤ k) && decide (k + 5 < c.initMiddle.length) &&
      (match c.initMiddle[k]? with
       | some e => (c.madctlParam e).isSome
       | none => false)

/-- R98: a conforming table. -/
def Config.tableConforms (c : Config) : Bool :=
  c.startsWithReset && c.endsWithDisplayOn && c.middleIsCommands && c.middleAvoids && c.madctlHasOneByte &&
    c.middleHasPurposes

/-- Every memory-access-control entry of the table carries the one parameter byte `m` (R98 item 4, R102). -/
def Config.tableSelects (c : Config) (m : Byte) : Bool :=
  c.initTable.all fun e =>
    match e with
    | .cmd op ps => op != c.opMadctl || ps == [m]
    | .wait _ => true

/-- R102: the table selects `MADCTL_ROT[0]`, the premise under which the geometry cached by initialize is the panel's. -/
def Config.tableIsPortrait (c : Config) : Bool := c.tableSelects c.madctlRot0

/-- The parameters a conforming block has: R10 and R98. -/
def Config.wf (c : Config) : Bool := c.distinctOps && c.tableConforms

end Sys2Proof
end

