-- ==== Sys2Proof/Decode.lean ====
section
/-! DEFINITION. The request decoder and encoder (30_encoding.md R63 to R72, R78). The request port carries whole 32-bit
words, so the decoder reads a list of words, first word first. -/

namespace Sys2Proof

/-- `OP`, bits [7:0] of word 0 (R64). -/
def opField (w0 : Word) : Byte := w0.extractLsb' 0 8

/-- `A8`, bits [15:8] of word 0 (R64). -/
def a8Field (w0 : Word) : Byte := w0.extractLsb' 8 8

/-- `C16`, bits [31:16] of word 0 (R64); also Y and H of the operand words (R65). -/
def highHalf (w : Word) : Half := w.extractLsb' 16 16

/-- X and W of the operand words (R65). -/
def lowHalf (w : Word) : Half := w.extractLsb' 0 16

/-- A row of the opcode map (R69): OP, the number of words, word 0's match and mask, and how the operands are assembled
from words 0 to 3 (R66, R67). -/
structure OpRow where
  op : Byte
  words : Nat
  pattern : Word
  mask : Word
  build : Word → Word → Word → Word → Instr

/-- The opcode map of R69, row by row. -/
def opTable : List OpRow :=
  [{ op := 0x01, words := 1, pattern := 0x00000001, mask := 0xFFFFFFFF, build := fun _ _ _ _ => .initialise },
   { op := 0x02, words := 1, pattern := 0x00000002, mask := 0xFFFF00FF,
     build := fun w0 _ _ _ => .setRotation (a8Field w0) },
   { op := 0x03, words := 2, pattern := 0x00000003, mask := 0xFFFFFFFF,
     build := fun _ w1 _ _ => .setCursor (lowHalf w1) (highHalf w1) },
   { op := 0x04, words := 2, pattern := 0x00000004, mask := 0xFFFF00FF,
     build := fun w0 w1 _ _ => .writeText (a8Field w0) w1 },
   { op := 0x05, words := 4, pattern := 0x00000005, mask := 0xFFFFFFFF,
     build := fun _ w1 w2 w3 => .pushPixels (lowHalf w1) (highHalf w1) (lowHalf w2) (highHalf w2) w3 },
   { op := 0x06, words := 1, pattern := 0x00000006, mask := 0x0000FFFF,
     build := fun w0 _ _ _ => .writePixel (highHalf w0) },
   { op := 0x07, words := 2, pattern := 0x00000007, mask := 0x0000FFFF,
     build := fun w0 w1 _ _ => .writeColor (highHalf w0) w1 }] ++
  [{ op := 0x08, words := 3, pattern := 0x00000008, mask := 0xFFFFFFFF,
     build := fun _ w1 w2 _ => .setAddrWindow (lowHalf w1) (highHalf w1) (lowHalf w2) (highHalf w2) },
   { op := 0x09, words := 3, pattern := 0x00000009, mask := 0x0000FFFF,
     build := fun w0 w1 w2 _ =>
       .writeFillRect (lowHalf w1) (highHalf w1) (lowHalf w2) (highHalf w2) (highHalf w0) },
   { op := 0x0A, words := 1, pattern := 0x0000000A, mask := 0xFFFFFFFF, build := fun _ _ _ _ => .dcInit },
   { op := 0x0B, words := 1, pattern := 0x0000000B, mask := 0xFFFFFFFF, build := fun _ _ _ _ => .dcLow },
   { op := 0x0C, words := 1, pattern := 0x0000000C, mask := 0xFFFFFFFF, build := fun _ _ _ _ => .dcHigh },
   { op := 0x0D, words := 1, pattern := 0x0000000D, mask := 0xFFFF00FF,
     build := fun w0 _ _ _ => .writeCommand (a8Field w0) },
   { op := 0x0E, words := 1, pattern := 0x0000000E, mask := 0xFFFF00FF,
     build := fun w0 _ _ _ => .spiWrite (a8Field w0) }]

/-- The row of an assigned OP; none for 0x00 and 0x0F to 0xFF (R71). -/
def rowOf (op : Byte) : Option OpRow := opTable.find? fun r => r.op == op

/-- The three results of the decoder (R72). -/
inductive DecodeResult where
  | decoded (i : Instr) (n : Nat)
  | illegal (w0 : Word)
  | needMore (k : Nat)
deriving DecidableEq, Repr

/-- The decoder of R72. It is total: an unassigned OP (R71) or a nonzero reserved field (R70) is `illegal`, a sequence
that ends early is `needMore` (DEDUCED, log entry 6: an empty sequence needs at least one word). -/
def decode : List Word → DecodeResult
  | [] => .needMore 1
  | w0 :: rest =>
    match rowOf (opField w0) with
    | none => .illegal w0
    | some r =>
      if w0 &&& r.mask = r.pattern then
        if rest.length + 1 < r.words then .needMore (r.words - (rest.length + 1))
        else .decoded (r.build w0 (rest.getD 0 0) (rest.getD 1 0) (rest.getD 2 0)) r.words
      else .illegal w0

/-- Word 0 from its three fields (R64). -/
def word0 (c16 : Half) (a8 op : Byte) : Word := c16 ++ a8 ++ op

/-- An XY or WH operand word: the second operand is the high half (R65). -/
def pairWord (lo hi : Half) : Word := hi ++ lo

/-- The words of a request (R66, R69). -/
def encode : Instr → List Word
  | .initialise => [word0 0 0 0x01]
  | .setRotation mode => [word0 0 mode 0x02]
  | .setCursor x y => [word0 0 0 0x03, pairWord x y]
  | .writeText fontsize textaddr => [word0 0 fontsize 0x04, textaddr]
  | .pushPixels x y w h buf => [word0 0 0 0x05, pairWord x y, pairWord w h, buf]
  | .writePixel color => [word0 color 0 0x06]
  | .writeColor color count => [word0 color 0 0x07, count]
  | .setAddrWindow x y w h => [word0 0 0 0x08, pairWord x y, pairWord w h]
  | .writeFillRect x y w h color => [word0 color 0 0x09, pairWord x y, pairWord w h]
  | .dcInit => [word0 0 0 0x0A]
  | .dcLow => [word0 0 0 0x0B]
  | .dcHigh => [word0 0 0 0x0C]
  | .writeCommand opcode => [word0 0 opcode 0x0D]
  | .spiWrite byte => [word0 0 byte 0x0E]

/-- The OP value of a request (R69). -/
def opcodeOf : Instr → Byte
  | .initialise => 0x01
  | .setRotation _ => 0x02
  | .setCursor _ _ => 0x03
  | .writeText _ _ => 0x04
  | .pushPixels _ _ _ _ _ => 0x05
  | .writePixel _ => 0x06
  | .writeColor _ _ => 0x07
  | .setAddrWindow _ _ _ _ => 0x08
  | .writeFillRect _ _ _ _ _ => 0x09
  | .dcInit => 0x0A
  | .dcLow => 0x0B
  | .dcHigh => 0x0C
  | .writeCommand _ => 0x0D
  | .spiWrite _ => 0x0E

/-- The number of words of a request, a function of OP alone (R78); 1 for an unassigned OP, whose word 0 is all that is
consumed (R71). -/
def requestWords (op : Byte) : Nat :=
  match rowOf op with
  | some r => r.words
  | none => 1

/-- Four request words from a number whose bit 0 is bit 0 of word 0 and whose bits from `nbits` on count as 0. -/
def tableWords (nbits w : Nat) : List Word :=
  [BitVec.ofNat 32 (w % 2 ^ nbits), BitVec.ofNat 32 (w % 2 ^ nbits / 2 ^ 32),
   BitVec.ofNat 32 (w % 2 ^ nbits / 2 ^ 64), BitVec.ofNat 32 (w % 2 ^ nbits / 2 ^ 96)]

/-- The request the decoder reads from an opcode-table row's bits; operand words are zeros beyond `nbits`. -/
def decodeTableWord (nbits w : Nat) : Option Instr :=
  match decode (tableWords nbits w) with
  | .decoded i _ => some i
  | .illegal _ => none
  | .needMore _ => none

/-- The words of that same request alone: as many as it has, or word 0 where the decoder refuses it. -/
def tableRequest (nbits w : Nat) : List Word :=
  match decode (tableWords nbits w) with
  | .decoded _ n => (tableWords nbits w).take n
  | .illegal _ => (tableWords nbits w).take 1
  | .needMore _ => (tableWords nbits w).take 1

end Sys2Proof
end

