-- ==== Sys2Proof/Machine/State.lean ====
section
/-! DEFINITION. The state of the block (10_state.md), its fault and refusal reasons, and its value after power-on reset
(R44, R167). `⊥` of R14 is `none`: it is the spec's own "no value", not a missing reset value. -/

namespace Sys2Proof.Machine

/-- `DcLevel` of R29. -/
inductive DcLevel where
  | low
  | high
  | undef
deriving DecidableEq, Repr

/-- `Event` of R36. -/
inductive Event where
  | byte (lvl : DcLevel) (b : Byte)
  | wait (k : WaitKind)
deriving DecidableEq, Repr

/-- `ProtoState` of R30. -/
inductive ProtoState where
  | unknown
  | param (cmd : Byte) (acc : List Byte)
  | stream (rem : Option Nat)
deriving DecidableEq, Repr

/-- The nine violations of R33, in the order of their bit numbers. -/
inductive Violation where
  | beforeInit
  | dcUnconfigured
  | dcIndeterminate
  | windowInvalid
  | countMismatch
  | streamNotOpen
  | paramIncomplete
  | paramOverrun
  | protocolUnknown
deriving DecidableEq, Repr

/-- The violation set of R33: one flag per violation. -/
structure Marks where
  beforeInit : Bool
  dcUnconfigured : Bool
  dcIndeterminate : Bool
  windowInvalid : Bool
  countMismatch : Bool
  streamNotOpen : Bool
  paramIncomplete : Bool
  paramOverrun : Bool
  protocolUnknown : Bool
deriving DecidableEq, Repr

/-- The empty violation set. -/
def Marks.empty : Marks where
  beforeInit := false
  dcUnconfigured := false
  dcIndeterminate := false
  windowInvalid := false
  countMismatch := false
  streamNotOpen := false
  paramIncomplete := false
  paramOverrun := false
  protocolUnknown := false

/-- The fault codes of R147 (code 0, "none", is the absence of a fault). -/
inductive FaultCode where
  | illegalRequest
  | bufferMisaligned
  | unwrittenRead
  | unassignedRegister
deriving DecidableEq, Repr

/-- The refusal codes of R149. -/
inductive RefusalCode where
  | writeTextOutOfScope
deriving DecidableEq, Repr

/-- What the outside world can ask of the block besides requests: a status read (R38, R160) or power-on reset (R167). -/
inductive ExternalInput where
  | readStatus (num : Byte)
  | powerOn
deriving DecidableEq, Repr

/-- The state of the block, and of the interfaces it reads. -/
structure State where
  /-- The parameters of R10; no step writes them (R21). -/
  cfg : Config
  /-- R22. -/
  width : Option Half
  /-- R23. -/
  height : Option Half
  /-- R24. -/
  rotation : Option (BitVec 2)
  /-- R25, an Int16 as its 16 bits. -/
  cursorX : Option Half
  /-- R25, an Int16 as its 16 bits. -/
  cursorY : Option Half
  /-- R27. -/
  initDone : Bool
  /-- R28. -/
  dcCfg : Bool
  /-- R29. -/
  dc : DcLevel
  /-- R30. -/
  proto : ProtoState
  /-- R31. -/
  winSc : Option Half
  /-- R31. -/
  winEc : Option Half
  /-- R31. -/
  winSp : Option Half
  /-- R31. -/
  winEp : Option Half
  /-- R33. -/
  viol : Marks
  /-- R34: the code and the value recorded with it. -/
  fault : Option (FaultCode × Word)
  /-- R35. -/
  refused : Option RefusalCode
  /-- R36. -/
  trace : List Event
  /-- R32: the request being executed, none when idle. -/
  req : Option Instr
  /-- R32: the index of the next byte or wait event of the request's sequence. -/
  stepIdx : Nat
  /-- The buffer element that push_pixels has read and not yet sent whole (implied by R55 and R61: each element is read
  exactly once, and a handshake may stall between its two bytes). -/
  elem : Option Half
  /-- The words presented on the request port and not yet consumed (R45, R63). -/
  port : List Word
  /-- A pending status read or power-on reset. -/
  input : Option ExternalInput
  /-- The value the status port returned last; none after a read that faulted (R38, R39). -/
  readData : Option Word
  /-- Host memory (R48, R52): the bytes the host admits, by address. An address that is not listed is not admitted. -/
  mem : List Host.Cell
  /-- The SPI transport (R158): none accepts every byte; `some n` accepts n more bytes and then stalls. -/
  accepts : Option Nat
deriving DecidableEq, Repr

/-- `busy` of R37 is `req ≠ idle`. -/
def State.busy (s : State) : Bool := s.req.isSome

/-- Why a step has no next state. -/
inductive Fault where
  /-- Raised by `step` when the fault register is set (R34, R146: "the block accepts no request and takes no step").
  Safe: the spec gives the block no step there. -/
  | halted (code : FaultCode) (info : Word)
  /-- Raised by `step` when the request in flight waits for a handshake the transport does not take (R165).
  Safe: the block is stuck until the transport accepts a byte. -/
  | transportStalled
  /-- Raised by `step` when push_pixels waits for an element host memory does not admit (R52, R165).
  Safe: the block is stuck. -/
  | memoryNotAdmitted
deriving DecidableEq, Repr

/-- Why a step has no meaning. -/
inductive Refusal where
  /-- Raised by `exec` for a request that has no meaning yet; none is left. Safe. -/
  | notModelled (mnemonic : String)
  /-- Raised by `step` when the refusal register is set (R35, R149: "the block takes no further step").
  Safe: no run continues through a refused request. -/
  | requestRefused (code : RefusalCode)
deriving DecidableEq, Repr

/-- Power-on reset (R44, R167) of a block with parameters `c`. The interfaces are at rest: no word presented, no input
pending, no host byte admitted, and a transport that accepts every byte (DESIGN CHOICE, log entries 7 and 8). -/
def State.resetWith (c : Config) : State where
  cfg := c
  width := none
  height := none
  rotation := none
  cursorX := none
  cursorY := none
  initDone := false
  dcCfg := false
  dc := .undef
  proto := .unknown
  winSc := none
  winEc := none
  winSp := none
  winEp := none
  viol := Marks.empty
  fault := none
  refused := none
  trace := []
  req := none
  stepIdx := 0
  elem := none
  port := []
  input := none
  readData := none
  mem := []
  accepts := none

/-- Power-on reset with the default parameters of R10. -/
def State.reset : State := State.resetWith Config.default

end Sys2Proof.Machine
end

