-- ==== Sys2Proof/Machine/Operands.lean ====
section
/-! DEFINITION. Everything the block computes from its operands (R14, R67, R118, R120, R121, R187, R189). -/

namespace Sys2Proof.Machine

/-- `hi(v) = v[15:8]` (R14). -/
def hiByte (v : Half) : Byte := v.extractLsb' 8 8

/-- `lo(v) = v[7:0]` (R14). -/
def loByte (v : Half) : Byte := v.extractLsb' 0 8

/-- `a : b`, a 16-bit value from its two bytes, the high one first (R14, R112). -/
def joinBytes (hi lo : Byte) : Half := hi ++ lo

/-- `x +16 (w -16 1)`, the end of a window, modulo 2^16 (R116, R118). -/
def windowEnd (x w : Half) : Half := x + (w - 1)

/-- `mode[1:0]` (R120). -/
def rotationOf (mode : Byte) : BitVec 2 := mode.extractLsb' 0 2

/-- `MADCTL_ROT[m]` (R10, R119). -/
def madctlByte (c : Config) (m : BitVec 2) : Byte :=
  match m.toNat with
  | 0 => c.madctlRot0
  | 1 => c.madctlRot1
  | 2 => c.madctlRot2
  | _ => c.madctlRot3

/-- The width of a rotation: assigned from the mode, never toggled (R121, C1). -/
def rotationWidth (m : BitVec 2) : Half := if m = 0 ∨ m = 2 then Config.physW else Config.physH

/-- The height of a rotation (R121, C1). -/
def rotationHeight (m : BitVec 2) : Half := if m = 0 ∨ m = 2 then Config.physH else Config.physW

/-- `w * h`, an exact natural number (R131, R134, R189). -/
def pixelCount (w h : Half) : Nat := w.toNat * h.toNat

/-- `(buf + 2*i) mod 2^32`, the byte address of element i (R187). -/
def elementAddr (buf : Word) (i : Nat) : Word := buf + BitVec.ofNat 32 (2 * i)

/-- `buf[0] = 1` (R130). -/
def misaligned (buf : Word) : Bool := buf.getLsbD 0

/-- The first byte on the wire of a buffer element (R51). -/
def firstWireByte (o : PixelOrder) (v : Half) : Byte :=
  match o with
  | .hiFirst => hiByte v
  | .loFirst => loByte v

/-- The second byte on the wire of a buffer element (R51). -/
def secondWireByte (o : PixelOrder) (v : Half) : Byte :=
  match o with
  | .hiFirst => loByte v
  | .loFirst => hiByte v

/-- A 16-bit element from the bytes at its lower and its higher address (R52). -/
def elementOf (o : HostByteOrder) (b0 b1 : Byte) : Half :=
  match o with
  | .little => joinBytes b1 b0
  | .big => joinBytes b0 b1

end Sys2Proof.Machine
end

