-- ==== Sys2Proof/Machine/Flags.lean ====
section
/-! DEFINITION. The flag-like fields (R41): the violation marks, the DC level, and the two checks that only mark. -/

namespace Sys2Proof.Machine

/-- Membership in the violation set (R33). -/
def Marks.has (m : Marks) (v : Violation) : Bool :=
  match v with
  | .beforeInit => m.beforeInit
  | .dcUnconfigured => m.dcUnconfigured
  | .dcIndeterminate => m.dcIndeterminate
  | .windowInvalid => m.windowInvalid
  | .countMismatch => m.countMismatch
  | .streamNotOpen => m.streamNotOpen
  | .paramIncomplete => m.paramIncomplete
  | .paramOverrun => m.paramOverrun
  | .protocolUnknown => m.protocolUnknown

/-- The violation set with one violation added (R33). -/
def Marks.add (m : Marks) (v : Violation) : Marks :=
  match v with
  | .beforeInit => { m with beforeInit := true }
  | .dcUnconfigured => { m with dcUnconfigured := true }
  | .dcIndeterminate => { m with dcIndeterminate := true }
  | .windowInvalid => { m with windowInvalid := true }
  | .countMismatch => { m with countMismatch := true }
  | .streamNotOpen => { m with streamNotOpen := true }
  | .paramIncomplete => { m with paramIncomplete := true }
  | .paramOverrun => { m with paramOverrun := true }
  | .protocolUnknown => { m with protocolUnknown := true }

/-- `mark V` (R15): sticky, and nothing else changes. -/
def State.mark (s : State) (v : Violation) : State := { s with viol := s.viol.add v }

/-- `mark V` under a condition. -/
def State.markIf (s : State) (p : Bool) (v : Violation) : State := if p then s.mark v else s

/-- `DriveDc(v)` (R85). -/
def driveDc (v : DcLevel) (s : State) : State :=
  if s.dcCfg then { s with dc := v } else s.mark .dcUnconfigured

/-- The level the panel sees for the next byte (R86). -/
def effLevel (s : State) : DcLevel := if s.dcCfg then s.dc else .undef

/-- The hazards `EffLevel()` records (R86). -/
def markLevel (s : State) : State :=
  (s.markIf (!s.dcCfg) .dcUnconfigured).markIf (decide (effLevel s = .undef)) .dcIndeterminate

/-- After a command byte the level is indeterminate (R87). -/
def releaseDc (s : State) : State := if s.dcCfg then { s with dc := .undef } else s

/-- dc_init: the pin becomes an output, its level is not known (R90). -/
def configureDc (s : State) : State := { s with dcCfg := true, dc := .undef }

/-- `DrawingCheck()` (R123). -/
def drawingCheck (s : State) : State := s.markIf (!s.initDone) .beforeInit

/-- Whether a memory-write stream is open (R125). -/
def ProtoState.isStream (p : ProtoState) : Bool :=
  match p with
  | .unknown => false
  | .param _ _ => false
  | .stream _ => true

/-- `StreamCheck(n)` (R125). -/
def streamCheck (n : Nat) (s : State) : State :=
  s.markIf (decide (0 < n) && !s.proto.isStream) .streamNotOpen

end Sys2Proof.Machine
end

