-- ==== Sys2Proof/Machine/Tracker.lean ====
section
/-! DEFINITION. The address-window state machine (42_addressing.md R105 to R114): what every emitted byte does to
`proto`, to the window shadow and to the violation set. -/

namespace Sys2Proof.Machine

/-- The two commands whose parameters the tracker captures (R47, R112). -/
def isWindowCmd (c : Config) (op : Byte) : Bool := op == c.opCaset || op == c.opPaset

/-- The column shadow becomes unknown. -/
def forgetColumns (s : State) : State := { s with winSc := none, winEc := none }

/-- The page shadow becomes unknown. -/
def forgetPages (s : State) : State := { s with winSp := none, winEp := none }

/-- The whole window shadow becomes unknown. -/
def forgetWindow (s : State) : State := forgetPages (forgetColumns s)

/-- `TrackUndef()` (R107). -/
def trackUndef (s : State) : State := { forgetWindow s with proto := .unknown }

/-- The range a window command addresses becomes unknown (R108). -/
def forgetRange (op : Byte) (s : State) : State :=
  if op = s.cfg.opCaset then forgetColumns s else forgetPages s

/-- `CloseContext()` (R108). -/
def closeContext (s : State) : State :=
  match s.proto with
  | .unknown => s
  | .param c acc =>
    if isWindowCmd s.cfg c && decide (acc.length < 4) then forgetRange c (s.mark .paramIncomplete) else s
  | .stream none => s
  | .stream (some r) => s.markIf (decide (0 < r)) .countMismatch

/-- The count of `OpenCount()` (R110): the bytes a window owes, none where the window is not inside the panel, is empty,
or is not known. -/
def openCount (s : State) : Option Nat :=
  match s.winSc, s.winEc, s.winSp, s.winEp, s.width, s.height with
  | some sc, some ec, some sp, some ep, some w, some h =>
    if sc.toNat ≤ ec.toNat ∧ ec.toNat < w.toNat ∧ sp.toNat ≤ ep.toNat ∧ ep.toNat < h.toNat then
      some (2 * (ec.toNat - sc.toNat + 1) * (ep.toNat - sp.toNat + 1))
    else none
  | _, _, _, _, _, _ => none

/-- A memory-write command opens a stream; an invalid window is marked (R109, R110). -/
def openStream (s : State) : State :=
  { s.markIf (openCount s).isNone .windowInvalid with proto := .stream (openCount s) }

/-- `OpenContext(b)` (R109). -/
def openContext (b : Byte) (s : State) : State :=
  if b = s.cfg.opRamwr then openStream s
  else if b = s.cfg.opSwreset then { forgetWindow s with proto := .param b [] }
  else { s with proto := .param b [] }

/-- The four captured bytes are a start and an end, each big-endian (R112). -/
def setRange (op : Byte) (start stop : Half) (s : State) : State :=
  if op = s.cfg.opCaset then { s with winSc := some start, winEc := some stop }
  else { s with winSp := some start, winEp := some stop }

/-- The window registers once a group is complete (R112). -/
def latchRange (op : Byte) (acc : List Byte) (s : State) : State :=
  match acc with
  | [b0, b1, b2, b3] => setRange op (joinBytes b0 b1) (joinBytes b2 b3) s
  | _ => s

/-- A column or page parameter byte (R112). -/
def captureParam (op : Byte) (acc : List Byte) (b : Byte) (s : State) : State :=
  if acc.length < 4 then latchRange op (acc ++ [b]) { s with proto := .param op (acc ++ [b]) }
  else s.mark .paramOverrun

/-- `TrackData(b)` (R111 to R114). -/
def trackData (b : Byte) (s : State) : State :=
  match s.proto with
  | .unknown => s.mark .protocolUnknown
  | .param c acc => if isWindowCmd s.cfg c then captureParam c acc b s else s
  | .stream none => s
  | .stream (some 0) => s.mark .countMismatch
  | .stream (some (r + 1)) => { s with proto := .stream (some r) }

/-- `Track(lvl, b)` (R106). -/
def track (lvl : DcLevel) (b : Byte) (s : State) : State :=
  match lvl with
  | .undef => trackUndef s
  | .low => openContext b (closeContext s)
  | .high => trackData b s

end Sys2Proof.Machine
end

