-- ==== Sys2Proof/Machine/Ops.lean ====
section
/-! DEFINITION. The shared operations: host memory, the transport handshake and the three ways to send a byte, raising a
fault, refusing, power-on reset, and running a request's fixed sequence of operations up to its end or to the point where
it is stuck. -/

namespace Sys2Proof.Machine

/-! ### Host memory (R48, R52) -/

/-- Host memory: (address, byte) pairs, addresses strictly rising. -/
abbrev Memory := List Host.Cell

/-- The canonical form: strictly rising addresses of 32 bits. An unlisted address is not admitted and reads as nothing,
so no entry can equal what an unlisted address reads as. -/
def memoryWf (m : Memory) : Bool :=
  decide (m.Pairwise fun a b => a.1 < b.1) && m.all fun c => decide (c.1 < 2 ^ 32)

/-- The byte host memory holds at an address, none where it is not admitted (R52, IM6). -/
def readByte (m : Memory) (a : Nat) : Option Byte :=
  match m with
  | [] => none
  | (k, b) :: rest => if k = a then some b else readByte rest a

/-- The host places one byte in a buffer (R160). The block itself never writes (R15). -/
def writeByte (m : Memory) (a : Nat) (b : Byte) : Memory :=
  match m with
  | [] => [(a, b)]
  | (k, v) :: rest =>
    if a < k then (a, b) :: (k, v) :: rest
    else if a = k then (a, b) :: rest
    else (k, v) :: writeByte rest a b

/-- `MemRead(addr, 2)` (R52): none where host memory does not admit both bytes. -/
def readElement (o : HostByteOrder) (m : Memory) (addr : Word) : Option Half :=
  match readByte m addr.toNat, readByte m (addr + 1).toNat with
  | some b0, some b1 => some (elementOf o b0 b1)
  | some _, none => none
  | none, _ => none

/-! ### Ending a request -/

/-- No request in flight: `req = idle`, `step = 0`, `busy = false` (R32, R37). -/
def State.idle (s : State) : State := { s with req := none, stepIdx := 0, elem := none }

/-- A request is accepted: its sequence starts at index 0 (R32, R63). -/
def State.begin (s : State) (i : Instr) : State := { s with req := some i, stepIdx := 0, elem := none }

/-- `raise F(info)` (R146, R148): the one way a fault is taken. No handler, vector or saved state exists (R154). -/
def raise (f : FaultCode) (info : Word) (s : State) : State := { s.idle with fault := some (f, info) }

/-- `refuse W` (R149). -/
def refuse (w : RefusalCode) (s : State) : State := { s.idle with refused := some w }

/-- Power-on reset (R167), the only way out of a fault or a refusal (R155). The parameters and what lies outside the
block (host memory, the transport, words still presented) stay (DESIGN CHOICE, log entry 9). -/
def powerOnReset (s : State) : State :=
  { State.resetWith s.cfg with port := s.port, mem := s.mem, accepts := s.accepts }

/-! ### The transport (R84, R158) -/

/-- What an operation ends in: it is done, or the block is stuck inside the request, for the reason given (R165). -/
inductive Progress where
  | done (s : State)
  | stuck (why : Fault) (s : State)
deriving DecidableEq, Repr

/-- The next event of the sequence has happened (R32). -/
def State.advance (s : State) : State := { s with stepIdx := s.stepIdx + 1 }

/-- The transport takes one byte, if it will (R158). -/
def handshake (s : State) : Option State :=
  match s.accepts with
  | none => some s
  | some 0 => none
  | some (n + 1) => some { s with accepts := some n }

/-- An event joins the trace (R36). -/
def record (e : Event) (s : State) : State := { s with trace := s.trace ++ [e] }

/-- `Emit(lvl, b)` (R84): once the transport accepts, the append and the tracker update are one atomic step. -/
def emit (lvl : DcLevel) (b : Byte) (s : State) : Progress :=
  match handshake s with
  | none => .stuck .transportStalled s
  | some s1 => .done (track lvl b (record (.byte lvl b) s1)).advance

/-- A state change after an operation, made only once the operation is done (R17). -/
def Progress.andThen (p : Progress) (f : State → State) : Progress :=
  match p with
  | .done s => .done (f s)
  | .stuck why s => .stuck why s

/-- `SendRaw(b)` (R89). -/
def sendRaw (b : Byte) (s : State) : Progress := emit (effLevel s) b (markLevel s)

/-- `SendCommand(op)` (R87). -/
def sendCommand (op : Byte) (s : State) : Progress := (sendRaw op (driveDc .low s)).andThen releaseDc

/-- `SendData(b)` (R88). -/
def sendData (b : Byte) (s : State) : Progress := sendRaw b (driveDc .high s)

/-- `WaitEvent(k)` (R100): always enabled, no duration in the model. -/
def waitEvent (k : WaitKind) (s : State) : State := (record (.wait k) s).advance

/-! ### The element reads of push_pixels (R131, R187) -/

/-- The element at hand: the one already read, else the one host memory holds at `addr` now (R55, R61). -/
def elementAt (addr : Word) (s : State) : Option Half :=
  match s.elem with
  | some v => some v
  | none => readElement s.cfg.hostByteOrder s.mem addr

/-- Read element (unless it is read already) and send its first byte. -/
def sendElemFirst (addr : Word) (s : State) : Progress :=
  match elementAt addr s with
  | none => .stuck .memoryNotAdmitted s
  | some v => sendData (firstWireByte s.cfg.pushPixelOrder v) { s with elem := some v }

/-- Send the second byte of the element at hand, which is then done with. -/
def sendElemSecond (addr : Word) (s : State) : Progress :=
  match elementAt addr s with
  | none => .stuck .memoryNotAdmitted s
  | some v =>
    (sendData (secondWireByte s.cfg.pushPixelOrder v) { s with elem := some v }).andThen
      fun t => { t with elem := none }

/-! ### Panel state writes -/

/-- `rotation <- m` and the geometry of that rotation (R101, R119, R121). -/
def setGeometry (m : BitVec 2) (s : State) : State :=
  { s with rotation := some m, width := some (rotationWidth m), height := some (rotationHeight m) }

/-- `cursor_x <- x; cursor_y <- y` (R140). -/
def setCursor (x y : Half) (s : State) : State := { s with cursorX := some x, cursorY := some y }

/-! ### Sequences (R32, R188) -/

/-- One operation of a request's sequence. `command`, `data`, `raw`, `elemFirst`, `elemSecond` and `wait` are its events;
the others change state between two events. -/
inductive Op where
  | configureDc
  | driveDc (v : DcLevel)
  | setCursor (x y : Half)
  | drawingCheck
  | streamCheck (n : Nat)
  | command (b : Byte)
  | data (b : Byte)
  | raw (b : Byte)
  | elemFirst (addr : Word)
  | elemSecond (addr : Word)
  | wait (k : WaitKind)
  | setInitDone
  | setGeometry (m : BitVec 2)
deriving DecidableEq, Repr

/-- Whether an operation is a byte or wait event, the unit `step` counts (R32). -/
def Op.isEvent (o : Op) : Bool :=
  match o with
  | .configureDc => false
  | .driveDc _ => false
  | .setCursor _ _ => false
  | .drawingCheck => false
  | .streamCheck _ => false
  | .command _ => true
  | .data _ => true
  | .raw _ => true
  | .elemFirst _ => true
  | .elemSecond _ => true
  | .wait _ => true
  | .setInitDone => false
  | .setGeometry _ => false

/-- The meaning of one operation. -/
def runOp (o : Op) (s : State) : Progress :=
  match o with
  | .configureDc => .done (configureDc s)
  | .driveDc v => .done (driveDc v s)
  | .setCursor x y => .done (setCursor x y s)
  | .drawingCheck => .done (drawingCheck s)
  | .streamCheck n => .done (streamCheck n s)
  | .command b => sendCommand b s
  | .data b => sendData b s
  | .raw b => sendRaw b s
  | .elemFirst addr => sendElemFirst addr s
  | .elemSecond addr => sendElemSecond addr s
  | .wait k => .done (waitEvent k s)
  | .setInitDone => .done { s with initDone := true }
  | .setGeometry m => .done (setGeometry m s)

/-- Operations in order, up to the end or to the first that is stuck (R17). -/
def runOps (ops : List Op) (s : State) : Progress :=
  match ops with
  | [] => .done s
  | o :: rest =>
    match runOp o s with
    | .done t => runOps rest t
    | .stuck why t => .stuck why t

/-- What is left of a sequence after its first `k` events; the state changes that stand before event `k` are kept, since
making them twice is making them once. -/
def afterEvents (k : Nat) (ops : List Op) : List Op :=
  match k, ops with
  | 0, ops => ops
  | _ + 1, [] => []
  | k + 1, o :: rest => if o.isEvent then afterEvents k rest else afterEvents (k + 1) rest

/-- The number of byte and wait events of a sequence. -/
def eventCount (ops : List Op) : Nat := (ops.filter Op.isEvent).length

/-- A request that has been accepted runs to its end, or to the handshake or memory read at which it is stuck with
`busy = true` (R165; D4: collapsed to one step, with the stalled prefixes admitted). -/
def runRequest (i : Instr) (ops : List Op) (s : State) : Host.Outcome State Fault Refusal :=
  match runOps ops (s.begin i) with
  | .done t => .next t.idle
  | .stuck _ t => .next t

/-- A request in flight goes on from where it is stuck; where nothing moves, the block has no step (R165).
DESIGN CHOICE (log entry 24): the spec does not fix when an element that host memory comes to admit late is read. The model
reads it at the first step at which memory admits it, whether or not the transport takes a byte then, and keeps it; the
pin is driven High for it at that step too. -/
def resumeOps (ops : List Op) (s : State) : Host.Outcome State Fault Refusal :=
  match runOps (afterEvents s.stepIdx ops) s with
  | .done t => .next t.idle
  | .stuck why t => if t.stepIdx = s.stepIdx ∧ t.elem = s.elem then .fault why else .next t

/-! ### The request port (R63) -/

/-- The decoder's answer to the words presented. -/
def fetchRequest (s : State) : DecodeResult := decode s.port

/-- Words are consumed (R63). -/
def consumeWords (n : Nat) (s : State) : State := { s with port := s.port.drop n }

/-- The host presents words after those already presented (R160). -/
def presentWords (ws : List Word) (s : State) : State := { s with port := s.port ++ ws }

/-- The host asks for a status register (R160). -/
def requestRead (num : Byte) (s : State) : State := { s with input := some (.readStatus num) }

/-- The host places a byte of a buffer (R160). -/
def placeByte (a : Word) (b : Byte) (s : State) : State := { s with mem := writeByte s.mem a.toNat b }

/-- A request of an opcode-table row is put in front of the words presented, with no input ahead of it. -/
def placeTableRequest (nbits w : Nat) (s : State) : State :=
  { s with port := tableRequest nbits w ++ s.port, input := none }

end Sys2Proof.Machine
end

