-- ==== Sys2Proof/Machine/Addressing.lean ====
section
/-! DEFINITION. Addressing requests (42_addressing.md): set_addr_window and set_rotation. -/

namespace Sys2Proof.Machine

/-- A column or page command with its range, start then end, each big-endian (R75, R116). -/
def rangeOps (op : Byte) (start stop : Half) : List Op :=
  [.command op, .data (hiByte start), .data (loByte start), .data (hiByte stop), .data (loByte stop)]

/-- `SetAddrWindowBody(x, y, w, h)` (R116). -/
def windowOps (c : Config) (x y w h : Half) : List Op :=
  rangeOps c.opCaset x (windowEnd x w) ++ rangeOps c.opPaset y (windowEnd y h) ++ [.command c.opRamwr]

/-- The sequence of set_addr_window (R117). -/
def setAddrWindowSeq (c : Config) (x y w h : Half) : List Op := .drawingCheck :: windowOps c x y w h

/-- set_addr_window (R117). -/
def execSetAddrWindow (x y w h : Half) (s : State) : Host.Outcome State Fault Refusal :=
  runRequest (.setAddrWindow x y w h) (setAddrWindowSeq s.cfg x y w h) s

/-- The sequence of set_rotation (R119); the registers are written after the last byte is accepted. -/
def setRotationSeq (c : Config) (mode : Byte) : List Op :=
  [.drawingCheck, .command c.opMadctl, .data (madctlByte c (rotationOf mode)), .setGeometry (rotationOf mode)]

/-- set_rotation (R119). -/
def execSetRotation (mode : Byte) (s : State) : Host.Outcome State Fault Refusal :=
  runRequest (.setRotation mode) (setRotationSeq s.cfg mode) s

end Sys2Proof.Machine
end

