-- ==== Sys2Proof/Machine/Initialization.lean ====
section
/-! DEFINITION. The panel power-up sequence (41_initialization.md). -/

namespace Sys2Proof.Machine

/-- The operations of one table entry (R99). -/
def entryOps (e : InitEntry) : List Op :=
  match e with
  | .cmd op ps => .command op :: ps.map .data
  | .wait k => [.wait k]

/-- The sequence of initialize (R99): the table in order, then the registers of R101. -/
def initialiseSeq (c : Config) : List Op :=
  c.initTable.flatMap entryOps ++ [.setInitDone, .setGeometry 0]

/-- initialize (R99). It does not configure the DC pin (D9) and does not call DrawingCheck (R123). -/
def execInitialise (s : State) : Host.Outcome State Fault Refusal :=
  runRequest .initialise (initialiseSeq s.cfg) s

end Sys2Proof.Machine
end

