-- ==== Sys2Proof/Machine/Pixels.lean ====
section
/-! DEFINITION. Pixel streaming (43_pixel_streaming.md): write_pixel, write_color, push_pixels, write_fill_rect. -/

namespace Sys2Proof.Machine

/-- One pixel, high byte first (R50). -/
def pixelOps (color : Half) : List Op := [.data (hiByte color), .data (loByte color)]

/-- `WriteColorBody(color, n)` (R126). -/
def colorOps (color : Half) (n : Nat) : List Op :=
  .streamCheck n :: (List.replicate n (pixelOps color)).flatten

/-- The sequence of write_pixel (R127). -/
def writePixelSeq (color : Half) : List Op := .drawingCheck :: colorOps color 1

/-- write_pixel (R127). -/
def execWritePixel (color : Half) (s : State) : Host.Outcome State Fault Refusal :=
  runRequest (.writePixel color) (writePixelSeq color) s

/-- The sequence of write_color (R128, R129). -/
def writeColorSeq (color : Half) (count : Word) : List Op := .drawingCheck :: colorOps color count.toNat

/-- write_color (R128). -/
def execWriteColor (color : Half) (count : Word) (s : State) : Host.Outcome State Fault Refusal :=
  runRequest (.writeColor color count) (writeColorSeq color count) s

/-- Element i of a buffer: read once, then its two bytes (R131). -/
def elementOps (buf : Word) (i : Nat) : List Op :=
  [.elemFirst (elementAddr buf i), .elemSecond (elementAddr buf i)]

/-- The sequence of push_pixels on an aligned buffer (R131). -/
def pushPixelsSeq (c : Config) (x y w h : Half) (buf : Word) : List Op :=
  .drawingCheck :: windowOps c x y w h ++
    .streamCheck (pixelCount w h) :: (List.range (pixelCount w h)).flatMap (elementOps buf)

/-- push_pixels (R130, R131): the alignment check comes before everything else. -/
def execPushPixels (x y w h : Half) (buf : Word) (s : State) : Host.Outcome State Fault Refusal :=
  if misaligned buf then .next (raise .bufferMisaligned buf s)
  else runRequest (.pushPixels x y w h buf) (pushPixelsSeq s.cfg x y w h buf) s

/-- The sequence of write_fill_rect (R134): w*h pixels in all (C3). -/
def writeFillRectSeq (c : Config) (x y w h color : Half) : List Op :=
  .drawingCheck :: windowOps c x y w h ++ colorOps color (pixelCount w h)

/-- write_fill_rect (R134). -/
def execWriteFillRect (x y w h color : Half) (s : State) : Host.Outcome State Fault Refusal :=
  runRequest (.writeFillRect x y w h color) (writeFillRectSeq s.cfg x y w h color) s

end Sys2Proof.Machine
end

