-- ==== Sys2Proof/Machine/TextCursor.lean ====
section
/-! DEFINITION. The text cursor (44_text_cursor.md): set_cursor, and write_text, which the block refuses. -/

namespace Sys2Proof.Machine

/-- The sequence of set_cursor (R140): a state write, no event. -/
def setCursorSeq (x y : Half) : List Op := [.setCursor x y]

/-- set_cursor (R140, R141). -/
def execSetCursor (x y : Half) (s : State) : Host.Outcome State Fault Refusal :=
  runRequest (.setCursor x y) (setCursorSeq x y) s

/-- write_text (R143): every well-formed write_text sets the refusal register and does nothing else, whatever its
operands; the register stays readable (R39, R149), and no further step is taken. -/
def execWriteText (_fontsize : Byte) (_textaddr : Word) (s : State) : Host.Outcome State Fault Refusal :=
  .next (refuse .writeTextOutOfScope s)

end Sys2Proof.Machine
end

