-- ==== Sys2Proof/Machine/Transport.lean ====
section
/-! DEFINITION. The transport requests (40_transport.md): dc_init, dc_low, dc_high, write_command, spi_write. -/

namespace Sys2Proof.Machine

/-- The sequence of dc_init (R90). -/
def dcInitSeq : List Op := [.configureDc]

/-- dc_init (R90). -/
def execDcInit (s : State) : Host.Outcome State Fault Refusal := runRequest .dcInit dcInitSeq s

/-- The sequence of dc_low (R91). -/
def dcLowSeq : List Op := [.driveDc .low]

/-- dc_low (R91). -/
def execDcLow (s : State) : Host.Outcome State Fault Refusal := runRequest .dcLow dcLowSeq s

/-- The sequence of dc_high (R92). -/
def dcHighSeq : List Op := [.driveDc .high]

/-- dc_high (R92). -/
def execDcHigh (s : State) : Host.Outcome State Fault Refusal := runRequest .dcHigh dcHighSeq s

/-- The sequence of write_command (R93); any of the 256 opcodes is sent unchecked (R73). -/
def writeCommandSeq (opcode : Byte) : List Op := [.command opcode]

/-- write_command (R93). -/
def execWriteCommand (opcode : Byte) (s : State) : Host.Outcome State Fault Refusal :=
  runRequest (.writeCommand opcode) (writeCommandSeq opcode) s

/-- The sequence of spi_write (R94). -/
def spiWriteSeq (byte : Byte) : List Op := [.raw byte]

/-- spi_write (R94). -/
def execSpiWrite (byte : Byte) (s : State) : Host.Outcome State Fault Refusal :=
  runRequest (.spiWrite byte) (spiWriteSeq byte) s

end Sys2Proof.Machine
end

