-- ==== Sys2Proof/Machine/Dispatch.lean ====
section
/-! DEFINITION. The meaning of every request: one arm per row of the opcode table. -/

namespace Sys2Proof.Machine

/-- The effect of an accepted request. -/
def exec (i : Instr) (s : State) : Host.Outcome State Fault Refusal :=
  match i with
  | .initialise => Sys2Proof.Machine.execInitialise s
  | .setRotation mode => Sys2Proof.Machine.execSetRotation mode s
  | .setCursor x y => Sys2Proof.Machine.execSetCursor x y s
  | .writeText fontsize textaddr => Sys2Proof.Machine.execWriteText fontsize textaddr s
  | .pushPixels x y w h buf => Sys2Proof.Machine.execPushPixels x y w h buf s
  | .writePixel color => Sys2Proof.Machine.execWritePixel color s
  | .writeColor color count => Sys2Proof.Machine.execWriteColor color count s
  | .setAddrWindow x y w h => Sys2Proof.Machine.execSetAddrWindow x y w h s
  | .writeFillRect x y w h color => Sys2Proof.Machine.execWriteFillRect x y w h color s
  | .dcInit => Sys2Proof.Machine.execDcInit s
  | .dcLow => Sys2Proof.Machine.execDcLow s
  | .dcHigh => Sys2Proof.Machine.execDcHigh s
  | .writeCommand opcode => Sys2Proof.Machine.execWriteCommand opcode s
  | .spiWrite byte => Sys2Proof.Machine.execSpiWrite byte s

end Sys2Proof.Machine
end

