-- ==== Sys2Proof/Machine/Status.lean ====
section
/-! DEFINITION. The status read port (10_state.md R38 to R40). -/

namespace Sys2Proof.Machine

/-- What a status register reads as: a value, a `⊥` field, or an unassigned number (R38, R39). -/
inductive StatusResult where
  | value (w : Word)
  | unwritten
  | unassigned
deriving DecidableEq, Repr

/-- A register of two 16-bit fields; the read faults if either is `⊥` (R38). -/
def pairRegister (lo hi : Option Half) : StatusResult :=
  match lo, hi with
  | some l, some h => .value (h ++ l)
  | some _, none => .unwritten
  | none, _ => .unwritten

/-- GEOMETRY, 0x00. -/
def geometryRegister (s : State) : StatusResult := pairRegister s.width s.height

/-- ROTATION, 0x01. -/
def rotationRegister (s : State) : StatusResult :=
  match s.rotation with
  | some m => .value (m.setWidth 32)
  | none => .unwritten

/-- CURSOR, 0x02: exactly the stored bits (R142). -/
def cursorRegister (s : State) : StatusResult := pairRegister s.cursorX s.cursorY

/-- DC_LEVEL: 0 = Low, 1 = High, 2 = Undef. -/
def dcCode (d : DcLevel) : BitVec 2 :=
  match d with
  | .low => 0
  | .high => 1
  | .undef => 2

/-- CONTROL, 0x03: BUSY [8], PIXFMT = 1 [7:4] (R26), DC_LEVEL [3:2], DC_CFG [1], INIT_DONE [0]. -/
def controlRegister (s : State) : Word :=
  (0 : BitVec 23) ++ BitVec.ofBool s.busy ++ (1 : BitVec 4) ++ dcCode s.dc ++ BitVec.ofBool s.dcCfg ++
    BitVec.ofBool s.initDone

/-- VIOLATIONS, 0x04: bit i is violation i (R33). -/
def violationsRegister (s : State) : Word :=
  (0 : BitVec 23) ++ BitVec.ofBool s.viol.protocolUnknown ++ BitVec.ofBool s.viol.paramOverrun ++
    BitVec.ofBool s.viol.paramIncomplete ++ BitVec.ofBool s.viol.streamNotOpen ++
    BitVec.ofBool s.viol.countMismatch ++ BitVec.ofBool s.viol.windowInvalid ++
    BitVec.ofBool s.viol.dcIndeterminate ++ BitVec.ofBool s.viol.dcUnconfigured ++ BitVec.ofBool s.viol.beforeInit

/-- PROTO, 0x05: CMD [15:8], NACC [6:4], REM_VALID [2], KIND [1:0]. -/
def protoRegister (s : State) : Word :=
  match s.proto with
  | .unknown => 0
  | .param c acc => (0 : BitVec 16) ++ c ++ (0 : BitVec 1) ++ BitVec.ofNat 3 acc.length ++ (0 : BitVec 2) ++ (1 : BitVec 2)
  | .stream r => (0 : BitVec 29) ++ BitVec.ofBool r.isSome ++ (2 : BitVec 2)

/-- STREAM_REM, 0x06. -/
def streamRemRegister (s : State) : StatusResult :=
  match s.proto with
  | .unknown => .unwritten
  | .param _ _ => .unwritten
  | .stream none => .unwritten
  | .stream (some r) => .value (BitVec.ofNat 32 r)

/-- WIN_COL, 0x07. -/
def winColRegister (s : State) : StatusResult := pairRegister s.winSc s.winEc

/-- WIN_PAGE, 0x08. -/
def winPageRegister (s : State) : StatusResult := pairRegister s.winSp s.winEp

/-- The codes of R147. -/
def faultCode (f : FaultCode) : Byte :=
  match f with
  | .illegalRequest => 1
  | .bufferMisaligned => 2
  | .unwrittenRead => 3
  | .unassignedRegister => 4

/-- The codes of R149. -/
def refusalCode (r : RefusalCode) : Byte :=
  match r with
  | .writeTextOutOfScope => 1

/-- FAULT, 0x09: REFUSAL [15:8], CODE [7:0], 0 for none. -/
def faultRegister (s : State) : Word :=
  (0 : BitVec 16) ++ (s.refused.map refusalCode).getD 0 ++ (s.fault.map fun f => faultCode f.1).getD 0

/-- FAULT_INFO, 0x0A, 0 for none (R148). -/
def faultInfoRegister (s : State) : Word := (s.fault.map Prod.snd).getD 0

/-- The register map of R38. -/
def statusValue (num : Byte) (s : State) : StatusResult :=
  match num.toNat with
  | 0x00 => geometryRegister s
  | 0x01 => rotationRegister s
  | 0x02 => cursorRegister s
  | 0x03 => .value (controlRegister s)
  | 0x04 => .value (violationsRegister s)
  | 0x05 => .value (protoRegister s)
  | 0x06 => streamRemRegister s
  | 0x07 => winColRegister s
  | 0x08 => winPageRegister s
  | 0x09 => .value (faultRegister s)
  | 0x0A => .value (faultInfoRegister s)
  | _ => .unassigned

/-- A status-port fault: the first fault recorded is kept (R39, R155). -/
def raiseIfNone (f : FaultCode) (info : Word) (s : State) : State :=
  match s.fault with
  | some _ => s
  | none => raise f info s

/-- A status read is served (R39): the answer stands in `readData`, and no block field but `fault` can change. -/
def serveRead (num : Byte) (s : State) : State :=
  match statusValue num s with
  | .value w => { s with input := none, readData := some w }
  | .unwritten => raiseIfNone .unwrittenRead (num.setWidth 32) { s with input := none, readData := none }
  | .unassigned => raiseIfNone .unassignedRegister (num.setWidth 32) { s with input := none, readData := none }

end Sys2Proof.Machine
end

