-- ==== Sys2Proof/Machine/Sequencer.lean ====
section
/-! DEFINITION. The request in flight (R32, R165): its sequence, going on with it, and what the block does when it has
neither an input to serve nor a request in flight (R63, R146, R149). -/

namespace Sys2Proof.Machine

/-- The sequence of a request, fixed when it is accepted (R32). write_text has none: it is refused (R143). -/
def sequenceOf (c : Config) (i : Instr) : List Op :=
  match i with
  | .initialise => initialiseSeq c
  | .setRotation mode => setRotationSeq c mode
  | .setCursor x y => setCursorSeq x y
  | .writeText _ _ => []
  | .pushPixels x y w h buf => pushPixelsSeq c x y w h buf
  | .writePixel color => writePixelSeq color
  | .writeColor color count => writeColorSeq color count
  | .setAddrWindow x y w h => setAddrWindowSeq c x y w h
  | .writeFillRect x y w h color => writeFillRectSeq c x y w h color
  | .dcInit => dcInitSeq
  | .dcLow => dcLowSeq
  | .dcHigh => dcHighSeq
  | .writeCommand opcode => writeCommandSeq opcode
  | .spiWrite byte => spiWriteSeq byte

/-- The request in flight goes on (R165). -/
def resume (i : Instr) (s : State) : Host.Outcome State Fault Refusal := resumeOps (sequenceOf s.cfg i) s

/-- The block accepts the request at the front of its port (R63): an illegal word 0 is consumed and faults (R70, R71), a
sequence that is not all there yet is waited for (R72), and a request has its words latched and is executed. -/
def acceptRequest (s : State) : Host.Outcome State Fault Refusal :=
  match fetchRequest s with
  | .illegal w0 => .next (raise .illegalRequest w0 (consumeWords 1 s))
  | .needMore _ => .next s
  | .decoded i n => exec i (consumeWords n s)

/-- The block's own step: none while a fault or a refusal stands (R146, R149), else the request in flight, else the next
request. DESIGN CHOICE (log entry 25): where a fault and a refusal both stand (a status read that faults after write_text)
the spec says only that no step is taken; the model answers the fault. -/
def proceed (s : State) : Host.Outcome State Fault Refusal :=
  match s.fault, s.refused, s.req with
  | some f, _, _ => .fault (.halted f.1 f.2)
  | none, some r, _ => .refused (.requestRefused r)
  | none, none, some i => resume i s
  | none, none, none => acceptRequest s

/-- One step with its input: power-on reset acts at any time; a status read is served only while idle, a fault or a
refusal notwithstanding (R39), and waits while a request is in flight. -/
def stepWith (s : State) : Host.Outcome State Fault Refusal :=
  match s.input with
  | some .powerOn => .next (powerOnReset s)
  | some (.readStatus num) => if s.busy then proceed s else .next (serveRead num s)
  | none => proceed s

end Sys2Proof.Machine
end

