-- ==== Sys2Proof/Machine/Step.lean ====
section
/-! DEFINITION. One step of the machine, and the placing of a request where the next step takes it. -/

namespace Sys2Proof.Machine

/-- One step (see `stepWith`). -/
def step (s : State) : Host.Outcome State Fault Refusal := stepWith s

/-- The request of an opcode-table row, presented on the request port ahead of every other word. -/
def State.withFetchWord (s : State) (nbits w : Nat) : State := placeTableRequest nbits w s

end Sys2Proof.Machine
end

