-- ==== Sys2Proof/Machine/Assembler.lean ====
section
/-! DEFINITION. The request language of 30_encoding.md section 7 (R79 to R82): lines of text to requests, with the range
checks of R80 and the two pseudo-instructions. -/

namespace Sys2Proof.Machine

/-- A parameter of R10 that an operand may name (R80). -/
inductive ParamName where
  | physW
  | physH
  | opSwreset
  | opSlpout
  | opDispon
  | opCaset
  | opPaset
  | opRamwr
  | opMadctl
  | madctlRot (m : BitVec 2)
deriving DecidableEq, Repr

/-- An operand: a literal with or without a leading minus sign, or the name of a parameter (R80). -/
inductive Operand where
  | lit (negative : Bool) (n : Nat)
  | sym (p : ParamName)
deriving DecidableEq, Repr

/-- The operation names of R79 and the pseudo-instructions of R81 and R82. -/
inductive AsmName where
  | initialise
  | setRotation
  | setCursor
  | writeText
  | pushPixels
  | writePixel
  | writeColor
  | setAddrWindow
  | writeFillRect
  | dcInit
  | dcLow
  | dcHigh
  | writeCommand
  | spiWrite
  | writeParams
  | command
deriving DecidableEq, Repr

/-- The configured value a parameter name stands for (R80). -/
def ParamName.value (c : Config) (p : ParamName) : Nat :=
  match p with
  | .physW => Config.physW.toNat
  | .physH => Config.physH.toNat
  | .opSwreset => c.opSwreset.toNat
  | .opSlpout => c.opSlpout.toNat
  | .opDispon => c.opDispon.toNat
  | .opCaset => c.opCaset.toNat
  | .opPaset => c.opPaset.toNat
  | .opRamwr => c.opRamwr.toNat
  | .opMadctl => c.opMadctl.toNat
  | .madctlRot m => (madctlByte c m).toNat

/-- An unsigned operand of `bits` bits; a minus sign or a value out of range is refused (R80). -/
def Operand.unsigned (c : Config) (bits : Nat) (o : Operand) : Option (BitVec bits) :=
  match o with
  | .lit true _ => none
  | .lit false n => if n < 2 ^ bits then some (BitVec.ofNat bits n) else none
  | .sym p => if p.value c < 2 ^ bits then some (BitVec.ofNat bits (p.value c)) else none

/-- A set_cursor operand, -32768 to 32767 (R80). -/
def Operand.signed16 (c : Config) (o : Operand) : Option Half :=
  match o with
  | .lit true n => if n ≤ 2 ^ 15 then some (BitVec.ofInt 16 (-(n : Int))) else none
  | .lit false n => if n < 2 ^ 15 then some (BitVec.ofNat 16 n) else none
  | .sym p => if p.value c < 2 ^ 15 then some (BitVec.ofNat 16 (p.value c)) else none

/-- Every operand as a byte, or none. -/
def allBytes (c : Config) (os : List Operand) : Option (List Byte) :=
  match os with
  | [] => some []
  | o :: rest =>
    match o.unsigned c 8, allBytes c rest with
    | some b, some bs => some (b :: bs)
    | some _, none => none
    | none, _ => none

/-- `write_params b1, ..., bn` expands to `dc_high`, then one spi_write each (R81, n ≥ 1). -/
def writeParams (bs : List Byte) : List Instr := .dcHigh :: bs.map .spiWrite

/-- `command op, b1, ..., bn` expands to `write_command op`, then `write_params` if n ≥ 1 (R82). -/
def commandWithParams (op : Byte) (bs : List Byte) : List Instr :=
  match bs with
  | [] => [.writeCommand op]
  | _ :: _ => .writeCommand op :: writeParams bs

/-- The operands x, y, w, h of R79, in the source's input order. -/
def fourHalves (c : Config) (x y w h : Operand) (build : Half → Half → Half → Half → Instr) : Option (List Instr) :=
  match x.unsigned c 16, y.unsigned c 16, w.unsigned c 16, h.unsigned c 16 with
  | some vx, some vy, some vw, some vh => some [build vx vy vw vh]
  | _, _, _, _ => none

/-- One line's requests (R79 to R82), or none where the assembler refuses it. -/
def assembleLine (c : Config) (name : AsmName) (os : List Operand) : Option (List Instr) :=
  match name, os with
  | .initialise, [] => some [.initialise]
  | .setRotation, [m] => (m.unsigned c 8).map fun v => [.setRotation v]
  | .setCursor, [x, y] =>
    match x.signed16 c, y.signed16 c with
    | some vx, some vy => some [.setCursor vx vy]
    | _, _ => none
  | .writeText, [f, a] =>
    match f.unsigned c 8, a.unsigned c 32 with
    | some vf, some va => some [.writeText vf va]
    | _, _ => none
  | .pushPixels, [x, y, w, h, b] =>
    match b.unsigned c 32 with
    | some vb => fourHalves c x y w h fun vx vy vw vh => .pushPixels vx vy vw vh vb
    | none => none
  | .writePixel, [p] => (p.unsigned c 16).map fun v => [.writePixel v]
  | .writeColor, [p, n] =>
    match p.unsigned c 16, n.unsigned c 32 with
    | some vp, some vn => some [.writeColor vp vn]
    | _, _ => none
  | .setAddrWindow, [x, y, w, h] => fourHalves c x y w h .setAddrWindow
  | .writeFillRect, [x, y, w, h, p] =>
    match p.unsigned c 16 with
    | some vp => fourHalves c x y w h fun vx vy vw vh => .writeFillRect vx vy vw vh vp
    | none => none
  | .dcInit, [] => some [.dcInit]
  | .dcLow, [] => some [.dcLow]
  | .dcHigh, [] => some [.dcHigh]
  | .writeCommand, [op] => (op.unsigned c 8).map fun v => [.writeCommand v]
  | .spiWrite, [b] => (b.unsigned c 8).map fun v => [.spiWrite v]
  | .writeParams, o :: rest => (allBytes c (o :: rest)).map writeParams
  | .command, op :: rest =>
    match op.unsigned c 8, allBytes c rest with
    | some vop, some bs => some (commandWithParams vop bs)
    | _, _ => none
  | _, _ => none

/-! ### Text (R79, R80) -/

/-- The names of R79, R81 and R82 as they are written. -/
def asmNames : List (String × AsmName) :=
  [("initialize", .initialise), ("set_rotation", .setRotation), ("set_cursor", .setCursor), ("write_text", .writeText),
   ("push_pixels", .pushPixels), ("write_pixel", .writePixel), ("write_color", .writeColor),
   ("set_addr_window", .setAddrWindow)] ++
  [("write_fill_rect", .writeFillRect), ("dc_init", .dcInit), ("dc_low", .dcLow), ("dc_high", .dcHigh),
   ("write_command", .writeCommand), ("spi_write", .spiWrite), ("write_params", .writeParams), ("command", .command)]

/-- The parameter names of R10 as they are written. -/
def paramNames : List (String × ParamName) :=
  [("PHYS_W", .physW), ("PHYS_H", .physH), ("OP_SWRESET", .opSwreset), ("OP_SLPOUT", .opSlpout),
   ("OP_DISPON", .opDispon), ("OP_CASET", .opCaset), ("OP_PASET", .opPaset), ("OP_RAMWR", .opRamwr),
   ("OP_MADCTL", .opMadctl)] ++
  [("MADCTL_ROT[0]", .madctlRot 0), ("MADCTL_ROT[1]", .madctlRot 1), ("MADCTL_ROT[2]", .madctlRot 2),
   ("MADCTL_ROT[3]", .madctlRot 3)]

/-- The entry of a table whose name is these characters. -/
def findName {α : Type} (table : List (String × α)) (cs : List Char) : Option α :=
  (table.find? fun p => p.1.toList == cs).map Prod.snd

/-- A space or a tab. -/
def isBlankChar (c : Char) : Bool := c == ' ' || c == '\t'

/-- Characters without the blanks at both ends. -/
def trimBlanks (cs : List Char) : List Char :=
  ((cs.dropWhile isBlankChar).reverse.dropWhile isBlankChar).reverse

/-- The pieces between separators. -/
def splitAtChar (sep : Char) (cs : List Char) : List (List Char) :=
  match cs with
  | [] => [[]]
  | c :: rest =>
    if c = sep then [] :: splitAtChar sep rest
    else
      match splitAtChar sep rest with
      | [] => [[c]]
      | p :: ps => (c :: p) :: ps

/-- The value of a digit in a base of at most 16. -/
def digitValue (base : Nat) (c : Char) : Option Nat :=
  let v :=
    if '0' ≤ c ∧ c ≤ '9' then c.toNat - '0'.toNat
    else if 'a' ≤ c ∧ c ≤ 'f' then c.toNat - 'a'.toNat + 10
    else if 'A' ≤ c ∧ c ≤ 'F' then c.toNat - 'A'.toNat + 10
    else base
  if v < base then some v else none

/-- A number from its digits, the most significant first, after `acc`. -/
def digitsValue (base acc : Nat) (cs : List Char) : Option Nat :=
  match cs with
  | [] => some acc
  | c :: rest =>
    match digitValue base c with
    | some v => digitsValue base (acc * base + v) rest
    | none => none

/-- A decimal or 0x hexadecimal number (R80). -/
def numberValue (cs : List Char) : Option Nat :=
  match cs with
  | [] => none
  | ['0', 'x'] => none
  | '0' :: 'x' :: rest => digitsValue 16 0 rest
  | c :: rest => digitsValue 10 0 (c :: rest)

/-- One operand (R80). -/
def parseOperand (cs : List Char) : Option Operand :=
  match cs with
  | '-' :: rest => (numberValue rest).map (.lit true)
  | _ =>
    match numberValue cs with
    | some n => some (.lit false n)
    | none => (findName paramNames cs).map .sym

/-- Every operand of a line, or none. -/
def parseOperands (pieces : List (List Char)) : Option (List Operand) :=
  match pieces with
  | [] => some []
  | p :: rest =>
    match parseOperand (trimBlanks p), parseOperands rest with
    | some o, some os => some (o :: os)
    | some _, none => none
    | none, _ => none

/-- One line of text: a comment or blank line gives no request, a line the assembler refuses gives none (R79, R80). -/
def assembleText (c : Config) (line : List Char) : Option (List Instr) :=
  let body := trimBlanks (line.takeWhile fun ch => ch != ';')
  let name := body.takeWhile fun ch => !isBlankChar ch
  let rest := trimBlanks (body.dropWhile fun ch => !isBlankChar ch)
  if body = [] then some []
  else
    match findName asmNames name, (if rest = [] then some [] else parseOperands (splitAtChar ',' rest)) with
    | some n, some os => assembleLine c n os
    | _, _ => none

/-- The requests of several lines, or none where one is refused. -/
def assembleLines (c : Config) (lines : List (List Char)) : Option (List Instr) :=
  match lines with
  | [] => some []
  | l :: rest =>
    match assembleText c l, assembleLines c rest with
    | some is, some js => some (is ++ js)
    | some _, none => none
    | none, _ => none

/-- The request words of a text, one request a line (R79). -/
def assembleProgram (c : Config) (text : String) : Option (List Word) :=
  (assembleLines c (splitAtChar '\n' text.toList)).map fun is => is.flatMap encode

end Sys2Proof.Machine
end

