-- ==== Sys2Proof/Machine/Panel.lean ====
section
/-! DEFINITION. Where pixels land (R132, R138) and which orientation the panel was told (R102, R122): views of the trace, not state of the block. The panel's frame memory is
outside the block, which can neither read nor check it (R43, R46). A claim made with this view needs the premises the spec
names: the transport delivered every byte, no mark is recorded, and the orientation is the cached one (R102, R132, R166). -/

namespace Sys2Proof.Machine

/-- Column and page of the k-th pixel of the window [sc, ec] x [sp, ..], row-major (R138). -/
def pixelPlace (sc ec sp : Half) (k : Nat) : Nat × Nat :=
  (sc.toNat + k % (ec.toNat - sc.toNat + 1), sp.toNat + k / (ec.toNat - sc.toNat + 1))

/-- The data bytes at the head of a list of events. -/
def leadingData (evs : List Event) : List Byte :=
  match evs with
  | [] => []
  | .byte .high b :: rest => b :: leadingData rest
  | .byte .low _ :: _ => []
  | .byte .undef _ :: _ => []
  | .wait _ :: _ => []

/-- The data bytes sent since the last event that is not a data byte, oldest first: the burst of a memory-write stream. -/
def currentBurst (tr : List Event) : List Byte := (leadingData tr.reverse).reverse

/-- The 16-bit pixels of a burst, two bytes each (R77), the first byte high, as R50 sends them.
DESIGN CHOICE (log entry 26): for a push_pixels burst under `LoFirst` (R51) the spec does not say how the panel pairs the
bytes; the panel of the model pairs every burst alike, so such an element lands with its bytes exchanged. -/
def burstPixels (bs : List Byte) : List Half :=
  match bs with
  | [] => []
  | [_] => []
  | b0 :: b1 :: rest => joinBytes b0 b1 :: burstPixels rest

/-- The frame-memory writes of the stream that is open: each pixel with its column and page (R132, R138); nothing where no
counted stream is open. Under `LoFirst` the pixel values are those of log entry 26. -/
def frameWrites (s : State) : List ((Nat × Nat) × Half) :=
  match s.proto, s.winSc, s.winEc, s.winSp with
  | .stream (some _), some sc, some ec, some sp =>
    (burstPixels (currentBurst s.trace)).zipIdx.map fun p => (pixelPlace sc ec sp p.2, p.1)
  | _, _, _, _ => []

/-- What the trace so far told the panel of its orientation: whether a memory-access-control command waits for its
parameter, and the parameter it took last. -/
structure PanelView where
  awaiting : Bool
  orientation : Option Byte
deriving DecidableEq, Repr

/-- One more event (log entry 20): a software reset or a byte at Undef leaves the orientation unknown, and the first data
byte after a memory-access-control command sets it (R76). -/
def PanelView.see (c : Config) (v : PanelView) (e : Event) : PanelView :=
  match e with
  | .byte .low op =>
    { awaiting := op == c.opMadctl, orientation := if op = c.opSwreset then none else v.orientation }
  | .byte .high b => { awaiting := false, orientation := if v.awaiting then some b else v.orientation }
  | .byte .undef _ => { awaiting := false, orientation := none }
  | .wait _ => v

/-- The view after a list of events. -/
def PanelView.after (c : Config) (v : PanelView) (evs : List Event) : PanelView := evs.foldl (PanelView.see c) v

/-- The memory-access-control byte a trace leaves the panel with, none where the trace does not say (R43, R102). -/
def panelOrientation (c : Config) (evs : List Event) : Option Byte :=
  (PanelView.after c { awaiting := false, orientation := none } evs).orientation

end Sys2Proof.Machine
end

