-- ==== Sys2Proof/Safety.lean ====
section
/-! DEFINITION. The terms claims use: what an idle, a successful and a clean state are (R166, R170), what the transport
still owes, requests in order (R59), and the invariant of the machine. -/

namespace Sys2Proof.Machine

/-- Nothing is in flight (R32, R37). -/
def Idle (s : State) : Prop := s.req = none ∧ s.stepIdx = 0 ∧ s.elem = none

/-- The block can take a request at its next step: idle, no fault, no refusal, no input ahead of it (R63, R160). -/
def Ready (s : State) : Prop := Idle s ∧ s.fault = none ∧ s.refused = none ∧ s.input = none

/-- The transport takes `n` more bytes (R185: the ground of every claim that a request completes). -/
def Accepts (n : Nat) (s : State) : Prop := ∀ m, s.accepts = some m → n ≤ m

/-- R166: the last request has completed and neither a fault nor a refusal stands. -/
def Successful (s : State) : Prop := s.port = [] ∧ s.busy = false ∧ s.fault = none ∧ s.refused = none

/-- "No mark recorded" (R151). -/
def Unmarked (s : State) : Prop := s.viol = Marks.empty

/-- R102's premise as a state shows it: the orientation the panel was told is the one the cached geometry belongs to. After
initialize that is the memory-access-control entry of the table carrying `MADCTL_ROT[0]` (`Config.tableIsPortrait`); a
set_rotation tells the panel its own byte. What the panel was told is a view of the trace (DEDUCED, log entry 20). -/
def OrientationIsCached (s : State) : Prop :=
  ∃ m, s.rotation = some m ∧ panelOrientation s.cfg s.trace = some (madctlByte s.cfg m)

/-- The observation of a run (R166, D5): the trace, the state registers and the marks. -/
structure Observation where
  trace : List Event
  width : Option Half
  height : Option Half
  rotation : Option (BitVec 2)
  cursorX : Option Half
  cursorY : Option Half
  initDone : Bool
  dcCfg : Bool
  dc : DcLevel
  proto : ProtoState
  winSc : Option Half
  winEc : Option Half
  winSp : Option Half
  winEp : Option Half
  viol : Marks
deriving DecidableEq, Repr

/-- What a state shows of the run that ended in it. -/
def observe (s : State) : Observation where
  trace := s.trace
  width := s.width
  height := s.height
  rotation := s.rotation
  cursorX := s.cursorX
  cursorY := s.cursorY
  initDone := s.initDone
  dcCfg := s.dcCfg
  dc := s.dc
  proto := s.proto
  winSc := s.winSc
  winEc := s.winEc
  winSp := s.winSp
  winEp := s.winEp
  viol := s.viol

/-- A run of `k` steps that ends successfully. -/
def EndsWell (k : Nat) (s : State) : Prop := ∃ t, Host.Core.run Sys2Proof.core k s = .next t ∧ Successful t

/-- Requests executed one at a time, in order (R59). -/
def execAll (is : List Instr) (s : State) : Host.Outcome State Fault Refusal :=
  match is with
  | [] => .next s
  | i :: rest =>
    match exec i s with
    | .next t => execAll rest t
    | .fault r => .fault r
    | .refused r => .refused r

/-- The events of a table entry, at the levels given for command and data bytes (R99). -/
def entryEvents (cmdLvl dataLvl : DcLevel) (e : InitEntry) : List Event :=
  match e with
  | .cmd op ps => .byte cmdLvl op :: ps.map (.byte dataLvl)
  | .wait k => [.wait k]

/-- The events of the whole table; INIT_TRACE of 95_test_vectors.md at the levels low and high. -/
def tableEvents (cmdLvl dataLvl : DcLevel) (c : Config) : List Event := c.initTable.flatMap (entryEvents cmdLvl dataLvl)

/-- The clean-boot state of R170: power-on reset, then dc_init, then initialize. A claim about its geometry has R102's premise,
`Config.tableIsPortrait`. -/
def cleanBoot (c : Config) : State :=
  { State.resetWith c with
    dcCfg := true, dc := .undef, initDone := true, rotation := some 0
    width := some Config.physW, height := some Config.physH
    proto := .param c.opDispon [], trace := tableEvents .low .high c }

/-- A change of the next state, if there is one. -/
def mapNext (f : State → State) (o : Host.Outcome State Fault Refusal) : Host.Outcome State Fault Refusal :=
  match o with
  | .next t => .next (f t)
  | .fault r => .fault r
  | .refused r => .refused r

/-! ### The events the requests owe, written from the spec's own byte sequences -/

/-- The level of a byte for which DC is driven to `v`: `v` once the pin is configured (R85, R86, R96). -/
def drivenLevel (s : State) (v : DcLevel) : DcLevel := if s.dcCfg then v else .undef

/-- A command byte (`C:hh` of R16, `U:hh` before dc_init). -/
def cmdEvent (s : State) (b : Byte) : Event := .byte (drivenLevel s .low) b

/-- A data byte (`D:hh` of R16, `U:hh` before dc_init). -/
def dataEvent (s : State) (b : Byte) : Event := .byte (drivenLevel s .high) b

/-- A 16-bit value as two data bytes, high byte first (R49, R50). -/
def halfEvents (s : State) (v : Half) : List Event :=
  [dataEvent s (v.extractLsb' 8 8), dataEvent s (v.extractLsb' 0 8)]

/-- The window end of R118, `(x + w − 1) mod 2^16`. -/
def endOf (x w : Half) : Half := BitVec.ofNat 16 (x.toNat + w.toNat + 65535)

/-- The events of `SetAddrWindowBody` (R116). -/
def windowEvents (s : State) (x y w h : Half) : List Event :=
  [cmdEvent s s.cfg.opCaset] ++ halfEvents s x ++ halfEvents s (endOf x w) ++ [cmdEvent s s.cfg.opPaset] ++
    halfEvents s y ++ halfEvents s (endOf y h) ++ [cmdEvent s s.cfg.opRamwr]

/-- The events of `WriteColorBody(color, n)` (R126). -/
def colorEvents (s : State) (color : Half) (n : Nat) : List Event :=
  (List.replicate n (halfEvents s color)).flatten

/-- The events of one buffer element, in the order `PUSH_PIXEL_ORDER` (R51). -/
def elementEvents (s : State) (v : Half) : List Event :=
  match s.cfg.pushPixelOrder with
  | .hiFirst => [dataEvent s (v.extractLsb' 8 8), dataEvent s (v.extractLsb' 0 8)]
  | .loFirst => [dataEvent s (v.extractLsb' 0 8), dataEvent s (v.extractLsb' 8 8)]

/-- Host memory holds the 16-bit elements `e 0` to `e (n - 1)` from byte address `buf` on (R52, R187). -/
def HoldsElements (s : State) (buf : Word) (n : Nat) (e : Nat → Half) : Prop :=
  ∀ i < n, ∃ b0 b1, readByte s.mem ((buf.toNat + 2 * i) % 2 ^ 32) = some b0 ∧
    readByte s.mem (((buf.toNat + 2 * i) % 2 ^ 32 + 1) % 2 ^ 32) = some b1 ∧
    e i = (match s.cfg.hostByteOrder with
      | .little => b1 ++ b0
      | .big => b0 ++ b1)

/-- The bytes of a table (R98): a command and its parameters each, a wait none. -/
def tableBytes (c : Config) : Nat :=
  (c.initTable.map fun e =>
    match e with
    | .cmd _ ps => ps.length + 1
    | .wait _ => 0).sum

/-- The window lies in the panel and is not empty (R115). -/
def WindowFits (x y w h panelW panelH : Half) : Prop :=
  1 ≤ w.toNat ∧ 1 ≤ h.toNat ∧ x.toNat + w.toNat ≤ panelW.toNat ∧ y.toNat + h.toNat ≤ panelH.toNat

/-- The violations a request can add (R150), row by row. -/
def markTable (i : Instr) : List Violation :=
  match i with
  | .initialise => [.dcUnconfigured, .dcIndeterminate, .countMismatch, .paramIncomplete]
  | .setRotation _ => [.beforeInit, .dcUnconfigured, .dcIndeterminate, .countMismatch, .paramIncomplete]
  | .setCursor _ _ => []
  | .writeText _ _ => []
  | .pushPixels _ _ _ _ _ =>
    [.beforeInit, .dcUnconfigured, .dcIndeterminate, .windowInvalid, .countMismatch, .streamNotOpen, .paramIncomplete]
  | .writePixel _ =>
    [.beforeInit, .dcUnconfigured, .dcIndeterminate, .countMismatch, .streamNotOpen, .paramOverrun, .protocolUnknown]
  | .writeColor _ _ =>
    [.beforeInit, .dcUnconfigured, .dcIndeterminate, .countMismatch, .streamNotOpen, .paramOverrun, .protocolUnknown]
  | .setAddrWindow _ _ _ _ =>
    [.beforeInit, .dcUnconfigured, .dcIndeterminate, .windowInvalid, .countMismatch, .paramIncomplete]
  | .writeFillRect _ _ _ _ _ =>
    [.beforeInit, .dcUnconfigured, .dcIndeterminate, .windowInvalid, .countMismatch, .streamNotOpen, .paramIncomplete]
  | .dcInit => []
  | .dcLow => [.dcUnconfigured]
  | .dcHigh => [.dcUnconfigured]
  | .writeCommand _ => [.dcUnconfigured, .dcIndeterminate, .windowInvalid, .countMismatch, .paramIncomplete]
  | .spiWrite _ =>
    [.dcUnconfigured, .dcIndeterminate, .windowInvalid, .countMismatch, .paramIncomplete, .paramOverrun, .protocolUnknown]

/-- An event without the value of its byte: its kind and its level. -/
def eventShape (e : Event) : Event :=
  match e with
  | .byte lvl _ => .byte lvl 0
  | .wait k => .wait k

/-- Word 0 has an assigned OP and a nonzero reserved field of its format (R66, R69, R70). -/
def ReservedNonzero (w0 : Word) : Prop :=
  (w0.toNat % 256 ∈ [0x01, 0x03, 0x05, 0x08, 0x0A, 0x0B, 0x0C] ∧ w0.toNat / 256 ≠ 0) ∨
  (w0.toNat % 256 ∈ [0x02, 0x04, 0x0D, 0x0E] ∧ w0.toNat / 65536 ≠ 0) ∨
  (w0.toNat % 256 ∈ [0x06, 0x07, 0x09] ∧ w0.toNat / 256 % 256 ≠ 0)

/-- Word 0 has an OP that R71 leaves unassigned. -/
def UnassignedOp (w0 : Word) : Prop := w0.toNat % 256 = 0 ∨ 0x0F ≤ w0.toNat % 256

/-- The "words" column of R69, by OP. -/
def wordsColumn (op : Nat) : Nat :=
  if op ∈ [0x03, 0x04, 0x07] then 2 else if op ∈ [0x08, 0x09] then 3 else if op = 0x05 then 4 else 1

/-! ### The invariant -/

/-- R23, R24: the geometry is that of the rotation, or all three are `⊥`. -/
def GeometryOk (s : State) : Prop :=
  (s.rotation = none ∧ s.width = none ∧ s.height = none) ∨
    ∃ m, s.rotation = some m ∧ s.width = some (rotationWidth m) ∧ s.height = some (rotationHeight m)

/-- R30, R110, R112, R113: only window commands capture parameters, at most four, and a stream owes at most the bytes of
the whole panel. -/
def ProtoOk (s : State) : Prop :=
  match s.proto with
  | .unknown => True
  | .param c acc => if isWindowCmd s.cfg c then acc.length ≤ 4 else acc = []
  | .stream none => True
  | .stream (some r) => r ≤ 2 * Config.physW.toNat * Config.physH.toNat

/-- R107, R108, R112: the two ends of a range are known together. -/
def WindowOk (s : State) : Prop := s.winSc.isSome = s.winEc.isSome ∧ s.winSp.isSome = s.winEp.isSome

/-- R85, R86, R107: before dc_init no level is driven and the tracker knows nothing. -/
def UnconfiguredOk (s : State) : Prop :=
  s.dcCfg = false → s.dc = .undef ∧ s.proto = .unknown ∧ s.winSc = none ∧ s.winSp = none

/-- R32: the position lies inside the sequence of the request in flight; idle is position 0 with no element at hand. -/
def PositionOk (s : State) : Prop :=
  match s.req with
  | none => s.stepIdx = 0 ∧ s.elem = none
  | some i => s.stepIdx < eventCount (sequenceOf s.cfg i)

/-- R146, R149: a faulted or refused block has no request in flight. -/
def QuiescentOk (s : State) : Prop := s.fault ≠ none ∨ s.refused ≠ none → s.req = none

/-- The invariant of the machine. -/
structure MachineInv (s : State) : Prop where
  geometry : GeometryOk s
  initialised : s.initDone = true → s.rotation ≠ none
  proto : ProtoOk s
  window : WindowOk s
  unconfigured : UnconfiguredOk s
  position : PositionOk s
  quiescent : QuiescentOk s
  memory : memoryWf s.mem = true

end Sys2Proof.Machine
end

