-- ==== Sys2Proof/Certificates/Slice0/Obligations.lean ====
section
/-! DEFINITION. The statements about the display command sequencer, for the provers. Each docstring names the rule of spec/
it formalises. -/

open Sys2Proof Sys2Proof.Machine

/-! ### Reset, acceptance, decoding -/

/-- R44: the value of every state field after power-on reset, for every choice of the parameters; a pending power-on reset
leaves every state there, faulted, refused or stuck. That the parameters stay and that the pending input is cleared is the
model's choice (log entry 9). -/
def Obligations.PowerOnResetLeavesEveryFieldAtItsResetValue : Prop :=
  let isReset : State → Prop := fun s =>
    s.width = none ∧ s.height = none ∧ s.rotation = none ∧ s.cursorX = none ∧ s.cursorY = none ∧
    s.initDone = false ∧ s.dcCfg = false ∧ s.dc = .undef ∧ s.proto = .unknown ∧
    s.winSc = none ∧ s.winEc = none ∧ s.winSp = none ∧ s.winEp = none ∧ (∀ v, s.viol.has v = false) ∧
    s.fault = none ∧ s.refused = none ∧ s.trace = [] ∧ s.req = none ∧ s.stepIdx = 0 ∧ s.busy = false
  (∀ c, isReset (State.resetWith c)) ∧
  ∀ s, s.input = some .powerOn → ∃ t, step s = .next t ∧ isReset t ∧ t.cfg = s.cfg ∧ t.input = none

/-- R63, R72: a step of a ready block is `exec` of the request its port decodes to, with the request's words consumed. -/
def Obligations.StepExecutesTheDecodedRequest : Prop :=
  ∀ s i n, Ready s → decode s.port = .decoded i n → i.wf = true → step s = exec i { s with port := s.port.drop n }

/-- R63, R72: while the words of a request are not all there the block waits, and nothing changes (the step that waits is the model's
own, log entry 15). -/
def Obligations.StepWaitsForMissingWords : Prop :=
  ∀ s k, Ready s → decode s.port = .needMore k → step s = .next s

/-- R71: a word 0 with an unassigned OP raises IllegalRequest after consuming only that word. -/
def Obligations.UnassignedOpFaultsAndConsumesOneWord : Prop :=
  ∀ s w0 rest, Ready s → s.port = w0 :: rest → UnassignedOp w0 →
    step s = .next { s with port := rest, fault := some (.illegalRequest, w0) }

/-- R70: an assigned OP with a nonzero reserved field raises IllegalRequest and nothing executes. -/
def Obligations.NonzeroReservedFieldFaults : Prop :=
  ∀ s w0 rest, Ready s → s.port = w0 :: rest → ReservedNonzero w0 →
    step s = .next { s with port := rest, fault := some (.illegalRequest, w0) }

/-- R72 (pseudocode), R78: for a legal word 0 the number of words is the "words" column of its OP; with fewer words
presented the decoder names how many are missing, with enough it decodes exactly that many. -/
def Obligations.RequestLengthIsAFunctionOfTheOp : Prop :=
  ∀ (w0 : Word) (rest : List Word), ¬ UnassignedOp w0 → ¬ ReservedNonzero w0 →
    (rest.length + 1 < wordsColumn (w0.toNat % 256) →
      decode (w0 :: rest) = .needMore (wordsColumn (w0.toNat % 256) - (rest.length + 1))) ∧
    (wordsColumn (w0.toNat % 256) ≤ rest.length + 1 →
      ∃ i, decode (w0 :: rest) = .decoded i (wordsColumn (w0.toNat % 256)) ∧
        (opcodeOf i).toNat = w0.toNat % 256)

/-- R66, R67, R69: every request, with every operand at every value, decodes from its own words, whatever follows them. -/
def Obligations.DecodeAfterEncodeGivesTheRequest : Prop :=
  ∀ i rest, i.wf = true → decode (encode i ++ rest) = .decoded i (encode i).length

/-- R66, R70: each word sequence the decoder accepts is the encoding of the request it gives, so no two encodings mean
the same request and no bit of a word is ignored. -/
def Obligations.EncodeAfterDecodeGivesTheWords : Prop :=
  ∀ ws i n, decode ws = .decoded i n → encode i = ws.take n ∧ n ≤ ws.length

/-- Words written out from R69 and 95_test_vectors.md (V1.1, V1.2, V1.5, V1.7, TV-E6 to TV-E15, TV-K5, P1). -/
def Obligations.SampleWordsDecodeToTheirRequests : Prop :=
  decode [0x00000001] = .decoded .initialise 1 ∧
  decode [0x0000FF02] = .decoded (.setRotation 0xFF) 1 ∧
  decode [0x00000003, 0x0190FFFD] = .decoded (.setCursor 0xFFFD 400) 2 ∧
  decode [0x00000204, 0x00002000] = .decoded (.writeText 2 0x2000) 2 ∧
  decode [0x00000005, 0x00060004, 0x00020002, 0x00001000] = .decoded (.pushPixels 4 6 2 2 0x1000) 4 ∧
  decode [0x12340006] = .decoded (.writePixel 0x1234) 1 ∧
  decode [0x07E00007, 0x00000002] = .decoded (.writeColor 0x07E0 2) 2 ∧
  decode [0x00000008, 0x0014000A, 0x00030002] = .decoded (.setAddrWindow 10 20 2 3) 3 ∧
  decode [0xF8000009, 0x0014000A, 0x00030002] = .decoded (.writeFillRect 10 20 2 3 0xF800) 3 ∧
  decode [0x0000000A] = .decoded .dcInit 1 ∧
  decode [0x00002A0D] = .decoded (.writeCommand 0x2A) 1 ∧
  decode [0x0000AB0E] = .decoded (.spiWrite 0xAB) 1

/-! ### Transport requests -/

/-- R90: dc_init configures the pin, leaves the level indeterminate, and changes nothing else. -/
def Obligations.DcInitConfiguresThePin : Prop :=
  ∀ s, exec .dcInit s = .next { s with dcCfg := true, dc := .undef, req := none, stepIdx := 0, elem := none }

/-- R91, R92: dc_low and dc_high drive a configured pin; before dc_init they only mark DcUnconfigured. -/
def Obligations.DcLowAndDcHighDriveAConfiguredPin : Prop :=
  (∀ s, s.dcCfg = true →
    exec .dcLow s = .next { s with dc := .low, req := none, stepIdx := 0, elem := none } ∧
    exec .dcHigh s = .next { s with dc := .high, req := none, stepIdx := 0, elem := none }) ∧
  (∀ s, s.dcCfg = false →
    exec .dcLow s = .next { s.mark .dcUnconfigured with req := none, stepIdx := 0, elem := none } ∧
    exec .dcHigh s = .next { s.mark .dcUnconfigured with req := none, stepIdx := 0, elem := none })

/-- R93, R87: write_command sends its opcode with DC low and leaves the level indeterminate; the tracker closes the old
context and opens the opcode's; before dc_init the byte goes out at Undef, is marked, and the tracker forgets. -/
def Obligations.WriteCommandSendsOneCommandByte : Prop :=
  ∀ op s, Accepts 1 s → ∃ t, exec (.writeCommand op) s = .next t ∧ t.busy = false ∧
    t.trace = s.trace ++ [cmdEvent s op] ∧
    (s.dcCfg = true → t.dc = .undef ∧ t.viol = (openContext op (closeContext s)).viol ∧
      t.proto = (openContext op (closeContext s)).proto ∧ t.winSc = (openContext op (closeContext s)).winSc ∧
      t.winEc = (openContext op (closeContext s)).winEc ∧ t.winSp = (openContext op (closeContext s)).winSp ∧
      t.winEp = (openContext op (closeContext s)).winEp) ∧
    (s.dcCfg = false → t.dc = s.dc ∧ t.viol = (s.viol.add .dcUnconfigured).add .dcIndeterminate ∧ t.proto = .unknown ∧
      t.winSc = none ∧ t.winEc = none ∧ t.winSp = none ∧ t.winEp = none)

/-- R94, R89: spi_write sends its byte at the current level and leaves DC unchanged; Low is tracked as a command, High as
data, and Undef is marked and makes the tracker forget. -/
def Obligations.SpiWriteSendsOneRawByte : Prop :=
  ∀ b s, Accepts 1 s → ∃ t, exec (.spiWrite b) s = .next t ∧ t.busy = false ∧ t.dc = s.dc ∧
    (s.dcCfg = true → s.dc = .low → t.trace = s.trace ++ [.byte .low b] ∧
      t.proto = (openContext b (closeContext s)).proto ∧ t.viol = (openContext b (closeContext s)).viol ∧
      t.winSc = (openContext b (closeContext s)).winSc ∧ t.winEc = (openContext b (closeContext s)).winEc ∧
      t.winSp = (openContext b (closeContext s)).winSp ∧ t.winEp = (openContext b (closeContext s)).winEp) ∧
    (s.dcCfg = true → s.dc = .high → t.trace = s.trace ++ [.byte .high b] ∧
      t.proto = (trackData b s).proto ∧ t.viol = (trackData b s).viol ∧
      t.winSc = (trackData b s).winSc ∧ t.winEc = (trackData b s).winEc ∧ t.winSp = (trackData b s).winSp ∧
      t.winEp = (trackData b s).winEp) ∧
    (s.dcCfg = false ∨ s.dc = .undef → t.trace = s.trace ++ [.byte .undef b] ∧ t.proto = .unknown ∧
      t.winSc = none ∧ t.winEc = none ∧ t.winSp = none ∧ t.winEp = none ∧ t.viol.has .dcIndeterminate = true) ∧
    (s.dcCfg = false → t.viol.has .dcUnconfigured = true)

/-- R96 laws 2 and 3: the pseudo-instruction of R82 sends the command byte and its parameters; a raw byte straight after
a command goes out at Undef and is marked. -/
def Obligations.RawCommandSequencesFollowTheTransportLaws : Prop :=
  (∀ s op bs, s.dcCfg = true → Accepts (bs.length + 1) s →
    ∃ t, execAll (commandWithParams op bs) s = .next t ∧ t.busy = false ∧
      t.trace = s.trace ++ .byte .low op :: bs.map (.byte .high) ∧
      t.rotation = s.rotation ∧ t.width = s.width ∧ t.height = s.height) ∧
  (∀ s op b, Accepts 2 s → ∃ t, execAll [.writeCommand op, .spiWrite b] s = .next t ∧ t.busy = false ∧
    t.trace = s.trace ++ [cmdEvent s op, .byte .undef b] ∧ t.viol.has .dcIndeterminate = true)

/-- R94, R96 law 1: once dc_init has run, spi_write is the only request that can emit a byte at level Undef. -/
def Obligations.OnlySpiWriteEmitsAtUndefOnceConfigured : Prop :=
  ∀ i s t, s.dcCfg = true → exec i s = .next t → (∀ b, i ≠ .spiWrite b) →
    ∃ evs, t.trace = s.trace ++ evs ∧ ∀ b, Event.byte .undef b ∉ evs

/-! ### The tracker -/

/-- R107: a byte at Undef makes the tracker forget its context and the window, and marks nothing. -/
def Obligations.UndefByteMakesTheTrackerForget : Prop :=
  ∀ b s, track .undef b s =
    { s with proto := .unknown, winSc := none, winEc := none, winSp := none, winEp := none }

/-- R108: what a command byte does to the context it interrupts. -/
def Obligations.CommandByteClosesTheContext : Prop :=
  ∀ s, s.cfg.distinctOps = true →
    (∀ acc, s.proto = .param s.cfg.opCaset acc → acc.length < 4 →
      closeContext s = { s with viol := s.viol.add .paramIncomplete, winSc := none, winEc := none }) ∧
    (∀ acc, s.proto = .param s.cfg.opPaset acc → acc.length < 4 →
      closeContext s = { s with viol := s.viol.add .paramIncomplete, winSp := none, winEp := none }) ∧
    (∀ r, s.proto = .stream (some r) → 0 < r → closeContext s = { s with viol := s.viol.add .countMismatch }) ∧
    (s.proto = .unknown ∨ s.proto = .stream none ∨ s.proto = .stream (some 0) ∨
      (∃ c acc, s.proto = .param c acc ∧ (4 ≤ acc.length ∨ c ≠ s.cfg.opCaset ∧ c ≠ s.cfg.opPaset)) →
      closeContext s = s)

/-- R109, R110: what a command byte opens: a stream owing exactly the bytes of a window inside the panel, a stream of
unknown count with WindowInvalid marked otherwise, or a parameter group; a software reset forgets the window. -/
def Obligations.CommandByteOpensItsContext : Prop :=
  ∀ b s, s.cfg.distinctOps = true →
    (b = s.cfg.opSwreset → openContext b s =
      { s with proto := .param b [], winSc := none, winEc := none, winSp := none, winEp := none }) ∧
    (b ≠ s.cfg.opSwreset → b ≠ s.cfg.opRamwr → openContext b s = { s with proto := .param b [] }) ∧
    (∀ sc ec sp ep w h, b = s.cfg.opRamwr → s.winSc = some sc → s.winEc = some ec → s.winSp = some sp →
      s.winEp = some ep → s.width = some w → s.height = some h → sc.toNat ≤ ec.toNat → ec.toNat < w.toNat →
      sp.toNat ≤ ep.toNat → ep.toNat < h.toNat →
      openContext b s =
        { s with proto := .stream (some (2 * (ec.toNat - sc.toNat + 1) * (ep.toNat - sp.toNat + 1))) }) ∧
    (b = s.cfg.opRamwr →
      (¬ ∃ sc ec sp ep w h, s.winSc = some sc ∧ s.winEc = some ec ∧ s.winSp = some sp ∧ s.winEp = some ep ∧
        s.width = some w ∧ s.height = some h ∧ sc.toNat ≤ ec.toNat ∧ ec.toNat < w.toNat ∧ sp.toNat ≤ ep.toNat ∧
        ep.toNat < h.toNat) →
      openContext b s = { s with proto := .stream none, viol := s.viol.add .windowInvalid })

/-- R111 to R114: what a data byte does in each context. -/
def Obligations.DataByteIsTrackedByItsContext : Prop :=
  ∀ b s, s.cfg.distinctOps = true →
    (s.proto = .unknown → trackData b s = { s with viol := s.viol.add .protocolUnknown }) ∧
    (∀ c acc, s.proto = .param c acc → c ≠ s.cfg.opCaset → c ≠ s.cfg.opPaset → trackData b s = s) ∧
    (∀ c acc, s.proto = .param c acc → (c = s.cfg.opCaset ∨ c = s.cfg.opPaset) → acc.length < 3 →
      trackData b s = { s with proto := .param c (acc ++ [b]) }) ∧
    (∀ b0 b1 b2, s.proto = .param s.cfg.opCaset [b0, b1, b2] →
      trackData b s = { s with proto := .param s.cfg.opCaset [b0, b1, b2, b],
                               winSc := some (b0 ++ b1), winEc := some (b2 ++ b) }) ∧
    (∀ b0 b1 b2, s.proto = .param s.cfg.opPaset [b0, b1, b2] →
      trackData b s = { s with proto := .param s.cfg.opPaset [b0, b1, b2, b],
                               winSp := some (b0 ++ b1), winEp := some (b2 ++ b) }) ∧
    (∀ c acc, s.proto = .param c acc → (c = s.cfg.opCaset ∨ c = s.cfg.opPaset) → 4 ≤ acc.length →
      trackData b s = { s with viol := s.viol.add .paramOverrun }) ∧
    (s.proto = .stream none → trackData b s = s) ∧
    (s.proto = .stream (some 0) → trackData b s = { s with viol := s.viol.add .countMismatch }) ∧
    (∀ r, s.proto = .stream (some (r + 1)) → trackData b s = { s with proto := .stream (some r) })

/-! ### Initialization -/

/-- R101, R102, R99: initialize emits the whole table in order and then writes the registers; the cursor, the pin's
configuration, the fault and the refusal are left alone and no mark is taken away (R103). What is said of the geometry has
R102's premise, `tableIsPortrait`. That the panel is left with the byte the table selects is said of the model's view of
the trace (DEDUCED, log entry 20), and of the panel itself only if every byte was delivered (R166). -/
def Obligations.InitializeRunsTheTableAndWritesTheRegisters : Prop :=
  ∀ s, Accepts (tableBytes s.cfg) s → ∃ t, exec .initialise s = .next t ∧ t.busy = false ∧
    t.trace = s.trace ++ tableEvents (drivenLevel s .low) (drivenLevel s .high) s.cfg ∧
    t.initDone = true ∧
    (s.cfg.tableIsPortrait = true → t.rotation = some 0 ∧ t.width = some 240 ∧ t.height = some 320 ∧
      (s.cfg.wf = true → s.dcCfg = true → panelOrientation s.cfg t.trace = some s.cfg.madctlRot0)) ∧
    (∀ m, s.cfg.tableSelects m = true → s.cfg.wf = true → s.dcCfg = true → panelOrientation s.cfg t.trace = some m) ∧
    t.cursorX = s.cursorX ∧ t.cursorY = s.cursorY ∧ t.dcCfg = s.dcCfg ∧ t.fault = s.fault ∧ t.refused = s.refused ∧
    ∀ v, s.viol.has v = true → t.viol.has v = true

/-- R104 items 1 to 3, for a conforming table and a configured pin: the software reset is first, the reset wait follows
its parameters, and sleep-out, its wait and display-on come last, with no other wait and no other such command. -/
def Obligations.InitializeOrdersResetWaitsAndDisplayOn : Prop :=
  ∀ s, s.cfg.wf = true → s.dcCfg = true → Accepts (tableBytes s.cfg) s →
    ∃ t, ∃ pRst pOut pOn : List Byte, ∃ mid : List Event, exec .initialise s = .next t ∧
      t.trace = s.trace ++ [.byte .low s.cfg.opSwreset] ++ pRst.map (.byte .high) ++ [.wait .resetWait] ++ mid ++
        [.byte .low s.cfg.opSlpout] ++ pOut.map (.byte .high) ++ [.wait .sleepOutWait] ++
        [.byte .low s.cfg.opDispon] ++ pOn.map (.byte .high) ∧
      (∀ k, Event.wait k ∉ mid) ∧ Event.byte .low s.cfg.opSwreset ∉ mid ∧ Event.byte .low s.cfg.opSlpout ∉ mid ∧
      Event.byte .low s.cfg.opDispon ∉ mid

/-- R104 item 4, for a conforming table: with the pin configured the tracker ends in display-on's context with the window
unknown, and only an interrupted context is marked; without it the tracker ends at Unknown. The level ends Undef where
display-on has no parameters (log entry 10: R99 and R104 say Undef, their pseudocode says High after a parameter). -/
def Obligations.InitializeLeavesTheTrackerInDisplayOn : Prop :=
  ∀ s, s.cfg.wf = true → Accepts (tableBytes s.cfg) s →
    ∃ t, exec .initialise s = .next t ∧
      (s.dcCfg = true → t.proto = .param s.cfg.opDispon [] ∧
        t.winSc = none ∧ t.winEc = none ∧ t.winSp = none ∧ t.winEp = none ∧
        (s.cfg.initTable.getLast? = some (.cmd s.cfg.opDispon []) → t.dc = .undef) ∧
        ∀ v, t.viol.has v = true → s.viol.has v = true ∨ v = .countMismatch ∨ v = .paramIncomplete) ∧
      (s.dcCfg = false → t.proto = .unknown)

/-- R27: `init_done` is written by initialize alone, and only when its whole sequence is done: a request that stalls
inside the table leaves it as it was. The second clause is about a request that goes on after a stall, at a position inside
its sequence (`MachineInv`). -/
def Obligations.InitDoneIsSetOnlyByACompletedInitialize : Prop :=
  (∀ i s t, exec i s = .next t → t.initDone = (s.initDone || (decide (i = .initialise) && !t.busy))) ∧
  (∀ i s t, MachineInv s → s.req = some i → resume i s = .next t →
    t.initDone = (s.initDone || (decide (i = .initialise) && !t.busy)))

/-- R170: power-on reset, then the words of dc_init and initialize, for every conforming parameters whose display-on has
no parameters (log entry 10): two steps end successfully with no mark, in the clean-boot state but for its geometry, which is
claimed under R102's premise, `tableIsPortrait`. The run rests on the interfaces that power-on reset has in the model, a
transport that takes every byte among them (DESIGN CHOICE, log entries 7 and 8). That the panel is left in the cached
orientation is said of the model's view of the trace (DEDUCED, log entry 20), and of the panel itself only if every byte was
delivered (R166). -/
def Obligations.BootFromResetReachesTheCleanBootState : Prop :=
  ∀ c : Config, c.wf = true → c.initTable.getLast? = some (.cmd c.opDispon []) →
    (c.tableIsPortrait = true →
      Host.Core.run Sys2Proof.core 2 { State.resetWith c with port := [0x0000000A, 0x00000001] } = .next (cleanBoot c) ∧
      OrientationIsCached (cleanBoot c)) ∧
    (∃ r w h, Host.Core.run Sys2Proof.core 2 { State.resetWith c with port := [0x0000000A, 0x00000001] } =
      .next { cleanBoot c with rotation := r, width := w, height := h }) ∧
    EndsWell 2 { State.resetWith c with port := [0x0000000A, 0x00000001] } ∧ Unmarked (cleanBoot c)

/-! ### Addressing -/

/-- R119, R121: set_rotation sends the memory-access-control command and one byte, then assigns the geometry from the mode;
the whole effect on the tracker and the marks of a configured block is stated too. That the panel is left with the byte of
the cached rotation is said of the model's view of the trace (DEDUCED, log entry 20), and of the panel itself only if every
byte was delivered (R166). -/
def Obligations.SetRotationSendsOneCommandAndAssignsTheGeometry : Prop :=
  ∀ mode s, Accepts 2 s → ∃ t, exec (.setRotation mode) s = .next t ∧ t.busy = false ∧
    t.rotation = some (BitVec.ofNat 2 (mode.toNat % 4)) ∧
    (mode.toNat % 4 = 0 ∨ mode.toNat % 4 = 2 → t.width = some 240 ∧ t.height = some 320) ∧
    (mode.toNat % 4 = 1 ∨ mode.toNat % 4 = 3 → t.width = some 320 ∧ t.height = some 240) ∧
    (∀ b, (mode.toNat % 4 = 0 ∧ b = s.cfg.madctlRot0 ∨ mode.toNat % 4 = 1 ∧ b = s.cfg.madctlRot1 ∨
        mode.toNat % 4 = 2 ∧ b = s.cfg.madctlRot2 ∨ mode.toNat % 4 = 3 ∧ b = s.cfg.madctlRot3) →
      t.trace = s.trace ++ [cmdEvent s s.cfg.opMadctl, dataEvent s b] ∧
      (s.dcCfg = true → panelOrientation s.cfg t.trace = some b)) ∧
    (s.initDone = false → t.viol.has .beforeInit = true) ∧
    (s.dcCfg = true → s.cfg.distinctOps = true →
      t.dc = .high ∧ t.proto = .param s.cfg.opMadctl [] ∧ t.viol = (closeContext (drawingCheck s)).viol ∧
      t.winSc = (closeContext s).winSc ∧ t.winEc = (closeContext s).winEc ∧
      t.winSp = (closeContext s).winSp ∧ t.winEp = (closeContext s).winEp)

/-- R120: a mode outside 0 to 3 behaves as its residue modulo 4, in the whole next state. -/
def Obligations.RotationModeWrapsModuloFour : Prop :=
  ∀ (m n : Byte) s, Accepts 2 s → m.toNat % 4 = n.toNat % 4 → exec (.setRotation m) s = exec (.setRotation n) s

/-- R116, R118: set_addr_window emits the column range, the page range and the memory-write command, the ends modulo
2^16, big-endian, and leaves the level indeterminate. -/
def Obligations.SetAddrWindowEmitsItsElevenBytes : Prop :=
  ∀ x y w h s, Accepts 11 s → ∃ t, exec (.setAddrWindow x y w h) s = .next t ∧ t.busy = false ∧
    t.trace = s.trace ++ windowEvents s x y w h ∧ (s.dcCfg = true → t.dc = .undef) ∧
    (s.initDone = false → t.viol.has .beforeInit = true)

/-- R115, R117: with a known geometry and a configured pin, the window shadow takes the operands, and the stream that
set_addr_window opens owes 2*w*h bytes exactly when the window fits; otherwise its count is unknown and WindowInvalid is
marked. -/
def Obligations.SetAddrWindowCountsExactlyTheWindowsThatFit : Prop :=
  ∀ x y w h s pw ph, Accepts 11 s → s.dcCfg = true → s.cfg.distinctOps = true → s.width = some pw →
    s.height = some ph →
    ∃ t, exec (.setAddrWindow x y w h) s = .next t ∧
      t.winSc = some x ∧ t.winEc = some (endOf x w) ∧ t.winSp = some y ∧ t.winEp = some (endOf y h) ∧
      (WindowFits x y w h pw ph → t.proto = .stream (some (2 * w.toNat * h.toNat)) ∧
        t.viol.has .windowInvalid = s.viol.has .windowInvalid) ∧
      (¬ WindowFits x y w h pw ph → t.proto = .stream none ∧ t.viol.has .windowInvalid = true)

/-- R124: a window that fits, then exactly w*h pixels: the stream is filled, no further mark is added, and the pixel bytes
follow the window bytes, high byte first. -/
def Obligations.WindowThenExactlyItsPixelsFillsTheStream : Prop :=
  ∀ x y w h s pw ph, ∀ cs : List Half, cs.length = w.toNat * h.toNat → Accepts (11 + 2 * cs.length) s →
    s.dcCfg = true → s.cfg.distinctOps = true → s.width = some pw → s.height = some ph → WindowFits x y w h pw ph →
    ∃ t u, exec (.setAddrWindow x y w h) s = .next t ∧ execAll (cs.map .writePixel) t = .next u ∧
      (∀ v, t.viol.has v = true →
        s.viol.has v = true ∨ v = .countMismatch ∨ v = .paramIncomplete ∨ v = .beforeInit ∧ s.initDone = false) ∧
      u.proto = .stream (some 0) ∧ u.viol = t.viol ∧ u.dc = .high ∧
      u.trace = s.trace ++ windowEvents s x y w h ++ cs.flatMap (halfEvents s)

/-- R82 and D15: the raw protocol means what the composite request means: column command, page command and memory-write
command sent through write_command, dc_high and spi_write end in the very state set_addr_window ends in. -/
def Obligations.RawWindowSequenceEqualsSetAddrWindow : Prop :=
  ∀ x y w h s, s.initDone = true → Accepts 11 s →
    execAll
      (commandWithParams s.cfg.opCaset [hiByte x, loByte x, hiByte (endOf x w), loByte (endOf x w)] ++
        commandWithParams s.cfg.opPaset [hiByte y, loByte y, hiByte (endOf y h), loByte (endOf y h)] ++
        commandWithParams s.cfg.opRamwr []) s =
      exec (.setAddrWindow x y w h) s

/-! ### Pixel streaming -/

/-- R126, R127: write_pixel sends two data bytes, high byte first, into whatever stream is open; the tracker takes them as
two data bytes. -/
def Obligations.WritePixelSendsTwoDataBytes : Prop :=
  ∀ color s, Accepts 2 s → ∃ t, exec (.writePixel color) s = .next t ∧ t.busy = false ∧
    t.trace = s.trace ++ halfEvents s color ∧ (s.dcCfg = true → t.dc = .high) ∧
    t.viol.has .beforeInit = (s.viol.has .beforeInit || !s.initDone) ∧
    t.viol.has .streamNotOpen = (s.viol.has .streamNotOpen || !s.proto.isStream) ∧
    (∀ r, s.dcCfg = true → s.proto = .stream (some (r + 2)) → t.proto = .stream (some r)) ∧
    (s.dcCfg = true → s.proto = .stream (some 0) → t.proto = .stream (some 0) ∧ t.viol.has .countMismatch = true) ∧
    (s.dcCfg = true → s.proto = .stream none → t.proto = .stream none) ∧
    (s.dcCfg = true → let u := trackData (color.extractLsb' 0 8) (trackData (color.extractLsb' 8 8) s)
      t.proto = u.proto ∧ t.winSc = u.winSc ∧ t.winEc = u.winEc ∧ t.winSp = u.winSp ∧ t.winEp = u.winEp)

/-- R126, R128: write_color sends the same two bytes `count` times. -/
def Obligations.WriteColorSendsTheColorCountTimes : Prop :=
  ∀ color count s, Accepts (2 * count.toNat) s →
    ∃ t, exec (.writeColor color count) s = .next t ∧ t.busy = false ∧
      t.trace = s.trace ++ colorEvents s color count.toNat ∧ (s.dcCfg = true → 0 < count.toNat → t.dc = .high)

/-- R129: write_color of zero pixels emits nothing, changes neither DC nor the tracker, and marks at most BeforeInit. -/
def Obligations.WriteColorOfZeroOnlyChecksForInit : Prop :=
  ∀ color s, exec (.writeColor color 0) s =
    .next { (if s.initDone then s else s.mark .beforeInit) with req := none, stepIdx := 0, elem := none }

/-- R136: write_color of `count` pixels ends in the state of `count` successive write_pixel requests, in every state that
meets the invariant (before dc_init the tracker knows no stream, `UnconfiguredOk`). -/
def Obligations.WriteColorIsRepeatedWritePixel : Prop :=
  ∀ color count s, MachineInv s → 1 ≤ count.toNat → Accepts (2 * count.toNat) s →
    execAll (List.replicate count.toNat (.writePixel color)) s = exec (.writeColor color count) s

/-- R135: write_fill_rect ends in the state of set_addr_window followed by write_color of w*h pixels, on a transport that
takes the bytes of both (R185). -/
def Obligations.FillRectIsWindowThenColor : Prop :=
  ∀ x y w h color s, Accepts (11 + 2 * (w.toNat * h.toNat)) s →
    exec (.writeFillRect x y w h color) s =
      execAll [.setAddrWindow x y w h, .writeColor color (BitVec.ofNat 32 (w.toNat * h.toNat))] s

/-- R134: write_fill_rect emits the window bytes and then w*h pixels, no more and no fewer (C3). -/
def Obligations.FillRectEmitsWindowAndItsPixels : Prop :=
  ∀ x y w h color s, Accepts (11 + 2 * (w.toNat * h.toNat)) s →
    ∃ t, exec (.writeFillRect x y w h color) s = .next t ∧ t.busy = false ∧
      t.trace = s.trace ++ windowEvents s x y w h ++ colorEvents s color (w.toNat * h.toNat) ∧
      (s.dcCfg = true → t.dc = if w.toNat * h.toNat = 0 then .undef else .high)

/-- R130: an odd buffer address raises BufferMisaligned before any byte, mark or register write. -/
def Obligations.OddBufferAddressFaultsBeforeAnyEffect : Prop :=
  ∀ x y w h buf s, buf.toNat % 2 = 1 →
    exec (.pushPixels x y w h buf) s =
      .next { s with fault := some (.bufferMisaligned, buf), req := none, stepIdx := 0, elem := none }

/-- R131: push_pixels opens the window and streams the w*h elements of the buffer in ascending order, each in the wire
order `PUSH_PIXEL_ORDER`, read from host memory as R52 says. -/
def Obligations.PushPixelsStreamsTheBuffer : Prop :=
  ∀ x y w h buf s e, buf.toNat % 2 = 0 → HoldsElements s buf (w.toNat * h.toNat) e →
    Accepts (11 + 2 * (w.toNat * h.toNat)) s →
    ∃ t, exec (.pushPixels x y w h buf) s = .next t ∧ t.busy = false ∧
      t.trace = s.trace ++ windowEvents s x y w h ++
        (List.range (w.toNat * h.toNat)).flatMap (fun i => elementEvents s (e i)) ∧
      (s.dcCfg = true → t.dc = if w.toNat * h.toNat = 0 then .undef else .high)

/-- R131, R117, R127, R51: push_pixels ends in the very state of set_addr_window followed by one write_pixel for each
element, with the bytes of the element exchanged under `LoFirst`: the tracker, the marks and the level included. -/
def Obligations.PushPixelsIsWindowThenItsPixels : Prop :=
  ∀ x y w h buf s e, buf.toNat % 2 = 0 → HoldsElements s buf (w.toNat * h.toNat) e →
    Accepts (11 + 2 * (w.toNat * h.toNat)) s →
    exec (.pushPixels x y w h buf) s =
      execAll (.setAddrWindow x y w h :: (List.range (w.toNat * h.toNat)).map fun i =>
        .writePixel (match s.cfg.pushPixelOrder with
          | .hiFirst => e i
          | .loFirst => (e i).extractLsb' 0 8 ++ (e i).extractLsb' 8 8)) s

/-- R52, R165: an element host memory does not admit leaves the block stuck before that element's bytes, busy, with the
bytes of the elements before it sent; it has no step there. -/
def Obligations.UnadmittedElementLeavesTheBlockStuck : Prop :=
  ∀ x y w h buf s e k, Ready s → buf.toNat % 2 = 0 → k < w.toNat * h.toNat → HoldsElements s buf k e →
    (readByte s.mem ((buf.toNat + 2 * k) % 2 ^ 32) = none ∨
      readByte s.mem (((buf.toNat + 2 * k) % 2 ^ 32 + 1) % 2 ^ 32) = none) → Accepts (11 + 2 * k) s →
    ∃ t, exec (.pushPixels x y w h buf) s = .next t ∧ t.busy = true ∧ t.stepIdx = 11 + 2 * k ∧
      t.trace = s.trace ++ windowEvents s x y w h ++ (List.range k).flatMap (fun i => elementEvents s (e i)) ∧
      step t = .fault .memoryNotAdmitted

/-- R132: on a fitting window with counted stream, element i of the buffer is the pixel at column x + (i mod w) and page
y + (i div w). `frameWrites` is a view of the trace (DEDUCED, log entry 20), and that an element sent under `LoFirst` lands
with its bytes exchanged is the model's choice (DESIGN CHOICE, log entry 26). R102's premise is `OrientationIsCached`, which
the request keeps. Of the panel's frame memory the view tells only if no mark is recorded and every byte was delivered
(R132, R166). -/
def Obligations.BufferElementsLandInRowMajorOrder : Prop :=
  ∀ x y w h buf s e pw ph, buf.toNat % 2 = 0 → HoldsElements s buf (w.toNat * h.toNat) e →
    Accepts (11 + 2 * (w.toNat * h.toNat)) s → s.dcCfg = true → s.cfg.distinctOps = true →
    s.width = some pw → s.height = some ph → WindowFits x y w h pw ph → OrientationIsCached s →
    ∃ t, exec (.pushPixels x y w h buf) s = .next t ∧ OrientationIsCached t ∧
      frameWrites t = (List.range (w.toNat * h.toNat)).map fun i =>
        ((x.toNat + i % w.toNat, y.toNat + i / w.toNat),
          match s.cfg.pushPixelOrder with
          | .hiFirst => e i
          | .loFirst => (e i).extractLsb' 0 8 ++ (e i).extractLsb' 8 8)

/-! ### Text cursor -/

/-- R140, R141: set_cursor stores its operands and does nothing else. -/
def Obligations.SetCursorStoresItsOperandsAndNothingElse : Prop :=
  ∀ x y s, exec (.setCursor x y) s =
    .next { s with cursorX := some x, cursorY := some y, req := none, stepIdx := 0, elem := none }

/-- R143, R149: write_text sets the refusal register and nothing else, whatever its operands, and the block then takes no
further step. -/
def Obligations.WriteTextIsRefusedByName : Prop :=
  (∀ f a s, exec (.writeText f a) s =
    .next { s with refused := some .writeTextOutOfScope, req := none, stepIdx := 0, elem := none }) ∧
  (∀ s r, s.fault = none → s.refused = some r → s.input = none → step s = .refused (.requestRefused r))

/-! ### Status port and stops -/

/-- R38: what each status register reads as, its fields placed at their bits. -/
def Obligations.StatusRegistersReadTheirFields : Prop :=
  ∀ s,
    (∀ w h, s.width = some w → s.height = some h →
      statusValue 0x00 s = .value (BitVec.ofNat 32 (h.toNat * 65536 + w.toNat))) ∧
    (∀ m, s.rotation = some m → statusValue 0x01 s = .value (BitVec.ofNat 32 m.toNat)) ∧
    (∀ x y, s.cursorX = some x → s.cursorY = some y →
      statusValue 0x02 s = .value (BitVec.ofNat 32 (y.toNat * 65536 + x.toNat))) ∧
    statusValue 0x03 s = .value (BitVec.ofNat 32 (s.initDone.toNat + 2 * s.dcCfg.toNat +
      4 * (match s.dc with | .low => 0 | .high => 1 | .undef => 2) + 16 + 256 * s.busy.toNat)) ∧
    statusValue 0x04 s = .value (BitVec.ofNat 32
      ((s.viol.has .beforeInit).toNat + 2 * (s.viol.has .dcUnconfigured).toNat +
       4 * (s.viol.has .dcIndeterminate).toNat + 8 * (s.viol.has .windowInvalid).toNat +
       16 * (s.viol.has .countMismatch).toNat + 32 * (s.viol.has .streamNotOpen).toNat +
       64 * (s.viol.has .paramIncomplete).toNat + 128 * (s.viol.has .paramOverrun).toNat +
       256 * (s.viol.has .protocolUnknown).toNat)) ∧
    (s.proto = .unknown → statusValue 0x05 s = .value 0) ∧
    (∀ c acc, s.proto = .param c acc → acc.length ≤ 4 →
      statusValue 0x05 s = .value (BitVec.ofNat 32 (1 + 16 * acc.length + 256 * c.toNat))) ∧
    (∀ r, s.proto = .stream r → statusValue 0x05 s = .value (BitVec.ofNat 32 (2 + 4 * r.isSome.toNat))) ∧
    (∀ r, s.proto = .stream (some r) → statusValue 0x06 s = .value (BitVec.ofNat 32 r)) ∧
    (∀ sc ec, s.winSc = some sc → s.winEc = some ec →
      statusValue 0x07 s = .value (BitVec.ofNat 32 (ec.toNat * 65536 + sc.toNat))) ∧
    (∀ sp ep, s.winSp = some sp → s.winEp = some ep →
      statusValue 0x08 s = .value (BitVec.ofNat 32 (ep.toNat * 65536 + sp.toNat))) ∧
    statusValue 0x09 s = .value (BitVec.ofNat 32 ((match s.fault with
      | none => 0
      | some (.illegalRequest, _) => 1
      | some (.bufferMisaligned, _) => 2
      | some (.unwrittenRead, _) => 3
      | some (.unassignedRegister, _) => 4) + 256 * s.refused.isSome.toNat)) ∧
    statusValue 0x0A s = .value (match s.fault with
      | none => 0
      | some (_, info) => info)

/-- R38, R39: a read of a `⊥` field, or of STREAM_REM without a defined count, is UnwrittenRead, and a read of 0x0B to
0xFF is UnassignedRegister. -/
def Obligations.StatusReadsOfNoValueFault : Prop :=
  ∀ s,
    (s.width = none ∨ s.height = none → statusValue 0x00 s = .unwritten) ∧
    (s.rotation = none → statusValue 0x01 s = .unwritten) ∧
    (s.cursorX = none ∨ s.cursorY = none → statusValue 0x02 s = .unwritten) ∧
    ((∀ r, s.proto ≠ .stream (some r)) → statusValue 0x06 s = .unwritten) ∧
    (s.winSc = none ∨ s.winEc = none → statusValue 0x07 s = .unwritten) ∧
    (s.winSp = none ∨ s.winEp = none → statusValue 0x08 s = .unwritten) ∧
    (∀ num : Byte, 0x0B ≤ num.toNat → statusValue num s = .unassigned)

/-- R39: a status read is served while idle, even after a fault or a refusal; it changes no field of the block but
`fault`, never a fault already recorded, and answers a value or raises its fault with the register number. The fields
`input` and `readData` are the model's form of the port (log entry 14). -/
def Obligations.StatusReadChangesNothingButTheFault : Prop :=
  ∀ s num, Idle s → s.input = some (.readStatus num) →
    (∀ w, statusValue num s = .value w → step s = .next { s with input := none, readData := some w }) ∧
    (statusValue num s = .unwritten → s.fault = none →
      step s = .next { s with input := none, readData := none, fault := some (.unwrittenRead, num.setWidth 32) }) ∧
    (statusValue num s = .unassigned → s.fault = none →
      step s = .next { s with input := none, readData := none, fault := some (.unassignedRegister, num.setWidth 32) }) ∧
    ((∀ w, statusValue num s ≠ .value w) → s.fault ≠ none →
      step s = .next { s with input := none, readData := none })

/-- R39: "It is accepted only while `busy = false`": with a request in flight the read waits, and the step is the one the
block takes without it (that the read is kept waiting is the model's choice, log entry 14). -/
def Obligations.StatusReadWaitsWhileBusy : Prop :=
  ∀ s num, s.busy = true → s.input = some (.readStatus num) →
    step s = mapNext (fun t => { t with input := some (.readStatus num) }) (step { s with input := none })

/-- R146: while a fault is recorded the block accepts no request and takes no step. That the stop answered is the fault where
a refusal stands beside it is the model's choice (DESIGN CHOICE, log entry 25). -/
def Obligations.FaultedBlockTakesNoStep : Prop :=
  ∀ s f info, s.fault = some (f, info) → s.input = none → step s = .fault (.halted f info)

/-! ### The whole machine -/

/-- What the requests leave alone when they answer a next state, field by field: the parameters, the ports and host memory
always (R15, R21, R40); the geometry but for set_rotation and initialize, and `init_done` but for initialize, each of them
kept by those two as well while they are stuck (R122, R27, R17); the cursor but for set_cursor (R25); the pin's
configuration but for dc_init (R28), and before it the level too (R85); the level for set_cursor, write_text, spi_write and
write_color of no pixel (R96 law 4, R94, R129); the window shadow where pixels go into an open stream (R114); the fault but
for push_pixels of an odd address (R147) and the refusal but for write_text (R149); the trace, the tracker and the
transport for the requests that send no byte, and the marks for those of them that add none. -/
def Obligations.RequestsLeaveEverythingElseUnchanged : Prop :=
  ∀ i s t, exec i s = .next t →
    (t.cfg = s.cfg ∧ t.port = s.port ∧ t.input = s.input ∧ t.readData = s.readData ∧
      t.mem = s.mem ∧ ∀ a, readByte t.mem a = readByte s.mem a) ∧
    (i ≠ .initialise → (∀ m, i ≠ .setRotation m) → t.rotation = s.rotation ∧ t.width = s.width ∧ t.height = s.height) ∧
    (i ≠ .initialise → t.initDone = s.initDone) ∧
    (t.busy = true → t.rotation = s.rotation ∧ t.width = s.width ∧ t.height = s.height ∧ t.initDone = s.initDone) ∧
    ((∃ x y, i = .setCursor x y) ∨ (∃ f a, i = .writeText f a) ∨ (∃ b, i = .spiWrite b) ∨
      (∃ c, i = .writeColor c 0) → t.dc = s.dc) ∧
    ((∃ x y, i = .setCursor x y) ∨ (∃ f a, i = .writeText f a) ∨ i = .dcInit → t.viol = s.viol) ∧
    ((∀ x y, i ≠ .setCursor x y) → t.cursorX = s.cursorX ∧ t.cursorY = s.cursorY) ∧
    (i ≠ .dcInit → t.dcCfg = s.dcCfg ∧ (s.dcCfg = false → t.dc = s.dc)) ∧
    ((∃ c, i = .writePixel c) ∨ (∃ c n, i = .writeColor c n) → s.dcCfg = true → s.proto.isStream = true →
      t.winSc = s.winSc ∧ t.winEc = s.winEc ∧ t.winSp = s.winSp ∧ t.winEp = s.winEp) ∧
    ((∀ x y w h buf, i = .pushPixels x y w h buf → buf.toNat % 2 = 0) → t.fault = s.fault) ∧
    ((∀ f a, i ≠ .writeText f a) → t.refused = s.refused) ∧
    ((∃ x y, i = .setCursor x y) ∨ (∃ f a, i = .writeText f a) ∨ i = .dcInit ∨ i = .dcLow ∨ i = .dcHigh →
      t.trace = s.trace ∧ t.proto = s.proto ∧ t.winSc = s.winSc ∧ t.winEc = s.winEc ∧ t.winSp = s.winSp ∧
      t.winEp = s.winEp ∧ t.accepts = s.accepts)

/-- R122: only set_rotation and initialize write `rotation`, `width` and `height`; a raw memory-access-control command
does not. -/
def Obligations.OnlySetRotationAndInitializeWriteTheGeometry : Prop :=
  ∀ i s t, exec i s = .next t → i ≠ .initialise → (∀ m, i ≠ .setRotation m) →
    t.rotation = s.rotation ∧ t.width = s.width ∧ t.height = s.height

/-- R139: no request but set_cursor reads or writes the cursor: with another cursor every other request does the same and
keeps that cursor. -/
def Obligations.OnlySetCursorReadsOrWritesTheCursor : Prop :=
  ∀ i s a b, (∀ x y, i ≠ .setCursor x y) →
    exec i { s with cursorX := a, cursorY := b } = mapNext (fun t => { t with cursorX := a, cursorY := b }) (exec i s)

/-- R41, R151: no request reads the marks, the fault or the refusal: with others in their place the next state is the same
in every other field, every emitted byte included. That `exec` runs alike under a recorded fault or refusal, which `step`
never lets it do (R146, R149), is the model's form (DEDUCED, log entry 23). -/
def Obligations.MarksAndFaultsNeverSteerARequest : Prop :=
  ∀ i s v f r, ∃ v' f' r', exec i { s with viol := v, fault := f, refused := r } =
    mapNext (fun t => { t with viol := v', fault := f', refused := r' }) (exec i s)

/-- R188: host memory can change the values push_pixels sends, never the number or order of its bytes, nor any other field
but the element at hand; no other request depends on it. -/
def Obligations.HostMemoryReachesOnlyPixelValues : Prop :=
  (∀ i s m, (∀ x y w h buf, i ≠ .pushPixels x y w h buf) →
    exec i { s with mem := m } = mapNext (fun t => { t with mem := m }) (exec i s)) ∧
  (∀ x y w h buf s m e e' t u, HoldsElements s buf (w.toNat * h.toNat) e →
    HoldsElements { s with mem := m } buf (w.toNat * h.toNat) e' → exec (.pushPixels x y w h buf) s = .next t →
    exec (.pushPixels x y w h buf) { s with mem := m } = .next u →
    u.trace.map eventShape = t.trace.map eventShape ∧ u.elem.isSome = t.elem.isSome ∧
      u = { t with mem := m, elem := u.elem, trace := u.trace })

/-- R150: the marks each request can add, and that DcUnconfigured and DcIndeterminate need an unconfigured pin, or for
spi_write the level Undef. -/
def Obligations.RequestsAddOnlyTheMarksOfTheTable : Prop :=
  ∀ i s t v, s.cfg.wf = true → exec i s = .next t → t.viol.has v = true → s.viol.has v = false →
    v ∈ markTable i ∧ (v = .dcUnconfigured → s.dcCfg = false) ∧
    (v = .dcIndeterminate → s.dcCfg = false ∨ (∃ b, i = .spiWrite b) ∧ s.dc = .undef)

/-- R33, R34, R35, R36: no step but power-on reset takes away a mark, clears a fault or a refusal, or shortens the trace;
the parameters never change (R21) and host memory is never written (R15). -/
def Obligations.HistoryOnlyGrowsUntilPowerOnReset : Prop :=
  ∀ s t, step s = .next t → s.input ≠ some .powerOn →
    s.trace <+: t.trace ∧ (∀ v, s.viol.has v = true → t.viol.has v = true) ∧
    (∀ f, s.fault = some f → t.fault = some f) ∧ (∀ r, s.refused = some r → t.refused = some r) ∧
    (s.initDone = true → t.initDone = true) ∧ (s.dcCfg = true → t.dcCfg = true) ∧ t.cfg = s.cfg ∧
    ∀ a, readByte t.mem a = readByte s.mem a

/-- R185: a ready block with a whole request presented, a transport that takes every byte and host memory that admits
every element finishes that request in its next step. R145's outcome of it is Refusal for write_text, Fault for push_pixels
of an odd address, and Completed, with neither a fault nor a refusal recorded, for every other. -/
def Obligations.EveryRequestFinishesOnAWillingTransport : Prop :=
  ∀ s i n, Ready s → decode s.port = .decoded i n → s.accepts = none →
    (∀ x y w h buf, i = .pushPixels x y w h buf → buf.toNat % 2 = 0 →
      ∃ e, HoldsElements s buf (w.toNat * h.toNat) e) →
    ∃ t, step s = .next t ∧ t.busy = false ∧ t.port = s.port.drop n ∧
      ((∀ f a, i ≠ .writeText f a) → t.refused = none) ∧
      ((∀ x y w h buf, i = .pushPixels x y w h buf → buf.toNat % 2 = 0) → t.fault = none) ∧
      (∀ f a, i = .writeText f a → t.refused = some .writeTextOutOfScope) ∧
      (∀ x y w h buf, i = .pushPixels x y w h buf → buf.toNat % 2 = 1 → t.fault = some (.bufferMisaligned, buf))

/-- R165: a request that does not complete leaves the block busy and stuck: until the transport or host memory changes,
the block has no step. -/
def Obligations.UnfinishedRequestIsStuck : Prop :=
  ∀ i s t, Ready s → exec i s = .next t → t.busy = true →
    step t = .fault .transportStalled ∨ step t = .fault .memoryNotAdmitted

/-- R84, R165 and D4: a stall is invisible once it is over: a request stalled after `n` bytes and then granted more ends
in the state in which the request ends, or stalls next, on a transport that takes those bytes without the pause. The
transport is the model's `accepts` (DESIGN CHOICE, log entry 11). -/
def Obligations.StallAndResumeEqualsNoStall : Prop :=
  ∀ i s t n a, Ready s → s.accepts = some n → exec i s = .next t → step t = .fault .transportStalled →
    a ≠ some 0 → step { t with accepts := a } = exec i { s with accepts := a.map (n + ·) }

/-- The invariant (R23, R24, R30, R31, R32, R85, R146) holds after power-on reset, for every choice of the parameters. -/
def Obligations.InvariantHoldsAfterReset : Prop :=
  (∀ c, MachineInv (State.resetWith c)) ∧ MachineInv State.reset

/-- Every step from a state that meets the invariant answers a state that meets it (R23 at every request boundary, and in
every state a request stalls in). -/
def Obligations.StepKeepsTheInvariant : Prop :=
  ∀ s t, MachineInv s → step s = .next t → MachineInv t
end

