-- ==== Sys2Proof/Laws/Decode.lean ====
section
/-! SUPPORT. The fields of a request word: word 0 is its three fields, an operand word its two halves, and the masks of the
opcode map keep exactly the fields they name. -/

namespace Sys2Proof

/-- A word is its three fields (R64). -/
theorem word0_fields (w : Word) : word0 (highHalf w) (a8Field w) (opField w) = w := by
  apply BitVec.eq_of_getLsbD_eq
  intro i hi
  simp only [word0, highHalf, a8Field, opField, BitVec.getLsbD_append, BitVec.getLsbD_extractLsb']
  split
  · simp_all
  · split
    · rename_i h1 h2
      simp only [h2, decide_true, Bool.true_and]
      congr 1; omega
    · rename_i h1 h2
      rw [decide_eq_true (by omega), Bool.true_and]
      congr 1; omega

@[simp] theorem opField_word0 (c : Half) (a o : Byte) : opField (word0 c a o) = o := by
  apply BitVec.eq_of_getLsbD_eq; intro i hi
  simp only [opField, word0, BitVec.getLsbD_extractLsb', BitVec.getLsbD_append]
  simp [*]

@[simp] theorem a8Field_word0 (c : Half) (a o : Byte) : a8Field (word0 c a o) = a := by
  apply BitVec.eq_of_getLsbD_eq; intro i hi
  have h1 : ¬ (8 + i < 8) := by omega
  have h2 : 8 + i - 8 = i := by omega
  simp only [a8Field, word0, BitVec.getLsbD_extractLsb', BitVec.getLsbD_append]
  simp [*]

@[simp] theorem highHalf_word0 (c : Half) (a o : Byte) : highHalf (word0 c a o) = c := by
  apply BitVec.eq_of_getLsbD_eq; intro i hi
  have h1 : ¬ (16 + i < 8) := by omega
  have h2 : ¬ (16 + i - 8 < 8) := by omega
  have h3 : 16 + i - 8 - 8 = i := by omega
  simp only [highHalf, word0, BitVec.getLsbD_extractLsb', BitVec.getLsbD_append]
  simp [*]

/-- An operand word is its two halves (R65). -/
theorem pairWord_halves (w : Word) : pairWord (lowHalf w) (highHalf w) = w := by
  apply BitVec.eq_of_getLsbD_eq
  intro i hi
  simp only [pairWord, highHalf, lowHalf, BitVec.getLsbD_append, BitVec.getLsbD_extractLsb']
  split
  · simp_all
  · rw [decide_eq_true (by omega), Bool.true_and]
    congr 1; omega

@[simp] theorem lowHalf_pairWord (lo up : Half) : lowHalf (pairWord lo up) = lo := by
  apply BitVec.eq_of_getLsbD_eq; intro i hi
  simp only [lowHalf, pairWord, BitVec.getLsbD_extractLsb', BitVec.getLsbD_append]
  simp [*]

@[simp] theorem highHalf_pairWord (lo up : Half) : highHalf (pairWord lo up) = up := by
  apply BitVec.eq_of_getLsbD_eq; intro i hi
  have h1 : ¬ (16 + i < 16) := by omega
  have h2 : 16 + i - 16 = i := by omega
  simp only [highHalf, pairWord, BitVec.getLsbD_extractLsb', BitVec.getLsbD_append]
  simp [*]

/-- Equal words 0 have equal fields. -/
theorem word0_inj {c c' : Half} {a a' o o' : Byte} :
    word0 c a o = word0 c' a' o' ↔ c = c' ∧ a = a' ∧ o = o' := by
  constructor
  · intro h
    exact ⟨by simpa using congrArg highHalf h, by simpa using congrArg a8Field h, by simpa using congrArg opField h⟩
  · rintro ⟨rfl, rfl, rfl⟩; rfl

/-- The mask of formats without a word 0 operand keeps all of word 0 (R69). -/
theorem word0_and_all (c : Half) (a o : Byte) : word0 c a o &&& 0xFFFFFFFF = word0 c a o :=
  BitVec.and_allOnes

/-- The mask of formats with an A8 operand keeps C16 and OP (R69). -/
theorem word0_and_noA8 (c : Half) (a o : Byte) : word0 c a o &&& 0xFFFF00FF = word0 c 0 o := by
  have hm : (0xFFFF00FF : Word) = word0 (BitVec.allOnes 16) 0 (BitVec.allOnes 8) := by decide
  rw [hm]
  show ((c ++ a ++ o) &&& (BitVec.allOnes 16 ++ (0 : Byte) ++ BitVec.allOnes 8) : BitVec (16 + 8 + 8)) = c ++ (0 : Byte) ++ o
  rw [BitVec.and_append, BitVec.and_append, BitVec.and_allOnes, BitVec.and_allOnes]
  simp

/-- The mask of formats with a C16 operand keeps A8 and OP (R69). -/
theorem word0_and_noC16 (c : Half) (a o : Byte) : word0 c a o &&& 0x0000FFFF = word0 0 a o := by
  have hm : (0x0000FFFF : Word) = word0 0 (BitVec.allOnes 8) (BitVec.allOnes 8) := by decide
  rw [hm]
  show ((c ++ a ++ o) &&& ((0 : Half) ++ BitVec.allOnes 8 ++ BitVec.allOnes 8) : BitVec (16 + 8 + 8)) = (0 : Half) ++ a ++ o
  rw [BitVec.and_append, BitVec.and_append, BitVec.and_allOnes, BitVec.and_allOnes]
  simp

theorem opField_toNat (w : Word) : (opField w).toNat = w.toNat % 256 := by simp [opField]

theorem a8Field_toNat (w : Word) : (a8Field w).toNat = w.toNat / 256 % 256 := by
  simp [a8Field, BitVec.extractLsb'_toNat, Nat.shiftRight_eq_div_pow]

theorem highHalf_toNat (w : Word) : (highHalf w).toNat = w.toNat / 65536 := by
  have := w.isLt
  simp [highHalf, BitVec.extractLsb'_toNat, Nat.shiftRight_eq_div_pow]
  omega

/-- Every row of the opcode map lists its pattern under its OP, with the mask covering OP (R69). -/
theorem opTable_patterns : ∀ r ∈ opTable, opField r.pattern = r.op ∧ r.pattern &&& r.mask = r.pattern := by
  simp only [opTable, List.cons_append, List.nil_append, List.forall_mem_cons, List.not_mem_nil, false_implies,
    implies_true, and_true]
  decide

/-- No two rows of the opcode map share an OP: decoding is unambiguous. -/
theorem opTable_distinct : (opTable.map (·.op)).Nodup := by decide

/-- The assigned OP values are 0x01 to 0x0E (R69, R71). -/
theorem rowOf_isSome (op : Byte) : (rowOf op).isSome = (decide (1 ≤ op.toNat) && decide (op.toNat ≤ 14)) := by
  revert op; decide +kernel

end Sys2Proof
end

