-- ==== Sys2Proof/Laws/State.lean ====
section
/-! SUPPORT. What each unconditional update of the state leaves in each field: one lemma per field per update. -/

namespace Sys2Proof.Machine

/-! ### State.mark -/

@[simp] theorem State.mark_cfg (s : State) (v : Violation) : (s.mark v).cfg = s.cfg := rfl
@[simp] theorem State.mark_width (s : State) (v : Violation) : (s.mark v).width = s.width := rfl
@[simp] theorem State.mark_height (s : State) (v : Violation) : (s.mark v).height = s.height := rfl
@[simp] theorem State.mark_rotation (s : State) (v : Violation) : (s.mark v).rotation = s.rotation := rfl
@[simp] theorem State.mark_cursorX (s : State) (v : Violation) : (s.mark v).cursorX = s.cursorX := rfl
@[simp] theorem State.mark_cursorY (s : State) (v : Violation) : (s.mark v).cursorY = s.cursorY := rfl
@[simp] theorem State.mark_initDone (s : State) (v : Violation) : (s.mark v).initDone = s.initDone := rfl
@[simp] theorem State.mark_dcCfg (s : State) (v : Violation) : (s.mark v).dcCfg = s.dcCfg := rfl
@[simp] theorem State.mark_dc (s : State) (v : Violation) : (s.mark v).dc = s.dc := rfl
@[simp] theorem State.mark_proto (s : State) (v : Violation) : (s.mark v).proto = s.proto := rfl
@[simp] theorem State.mark_winSc (s : State) (v : Violation) : (s.mark v).winSc = s.winSc := rfl
@[simp] theorem State.mark_winEc (s : State) (v : Violation) : (s.mark v).winEc = s.winEc := rfl
@[simp] theorem State.mark_winSp (s : State) (v : Violation) : (s.mark v).winSp = s.winSp := rfl
@[simp] theorem State.mark_winEp (s : State) (v : Violation) : (s.mark v).winEp = s.winEp := rfl
@[simp] theorem State.mark_viol (s : State) (v : Violation) : (s.mark v).viol = s.viol.add v := rfl
@[simp] theorem State.mark_fault (s : State) (v : Violation) : (s.mark v).fault = s.fault := rfl
@[simp] theorem State.mark_refused (s : State) (v : Violation) : (s.mark v).refused = s.refused := rfl
@[simp] theorem State.mark_trace (s : State) (v : Violation) : (s.mark v).trace = s.trace := rfl
@[simp] theorem State.mark_req (s : State) (v : Violation) : (s.mark v).req = s.req := rfl
@[simp] theorem State.mark_stepIdx (s : State) (v : Violation) : (s.mark v).stepIdx = s.stepIdx := rfl
@[simp] theorem State.mark_elem (s : State) (v : Violation) : (s.mark v).elem = s.elem := rfl
@[simp] theorem State.mark_port (s : State) (v : Violation) : (s.mark v).port = s.port := rfl
@[simp] theorem State.mark_input (s : State) (v : Violation) : (s.mark v).input = s.input := rfl
@[simp] theorem State.mark_readData (s : State) (v : Violation) : (s.mark v).readData = s.readData := rfl
@[simp] theorem State.mark_mem (s : State) (v : Violation) : (s.mark v).mem = s.mem := rfl
@[simp] theorem State.mark_accepts (s : State) (v : Violation) : (s.mark v).accepts = s.accepts := rfl

/-! ### State.idle -/

@[simp] theorem State.idle_cfg (s : State) : (s.idle).cfg = s.cfg := rfl
@[simp] theorem State.idle_width (s : State) : (s.idle).width = s.width := rfl
@[simp] theorem State.idle_height (s : State) : (s.idle).height = s.height := rfl
@[simp] theorem State.idle_rotation (s : State) : (s.idle).rotation = s.rotation := rfl
@[simp] theorem State.idle_cursorX (s : State) : (s.idle).cursorX = s.cursorX := rfl
@[simp] theorem State.idle_cursorY (s : State) : (s.idle).cursorY = s.cursorY := rfl
@[simp] theorem State.idle_initDone (s : State) : (s.idle).initDone = s.initDone := rfl
@[simp] theorem State.idle_dcCfg (s : State) : (s.idle).dcCfg = s.dcCfg := rfl
@[simp] theorem State.idle_dc (s : State) : (s.idle).dc = s.dc := rfl
@[simp] theorem State.idle_proto (s : State) : (s.idle).proto = s.proto := rfl
@[simp] theorem State.idle_winSc (s : State) : (s.idle).winSc = s.winSc := rfl
@[simp] theorem State.idle_winEc (s : State) : (s.idle).winEc = s.winEc := rfl
@[simp] theorem State.idle_winSp (s : State) : (s.idle).winSp = s.winSp := rfl
@[simp] theorem State.idle_winEp (s : State) : (s.idle).winEp = s.winEp := rfl
@[simp] theorem State.idle_viol (s : State) : (s.idle).viol = s.viol := rfl
@[simp] theorem State.idle_fault (s : State) : (s.idle).fault = s.fault := rfl
@[simp] theorem State.idle_refused (s : State) : (s.idle).refused = s.refused := rfl
@[simp] theorem State.idle_trace (s : State) : (s.idle).trace = s.trace := rfl
@[simp] theorem State.idle_req (s : State) : (s.idle).req = none := rfl
@[simp] theorem State.idle_stepIdx (s : State) : (s.idle).stepIdx = 0 := rfl
@[simp] theorem State.idle_elem (s : State) : (s.idle).elem = none := rfl
@[simp] theorem State.idle_port (s : State) : (s.idle).port = s.port := rfl
@[simp] theorem State.idle_input (s : State) : (s.idle).input = s.input := rfl
@[simp] theorem State.idle_readData (s : State) : (s.idle).readData = s.readData := rfl
@[simp] theorem State.idle_mem (s : State) : (s.idle).mem = s.mem := rfl
@[simp] theorem State.idle_accepts (s : State) : (s.idle).accepts = s.accepts := rfl

/-! ### State.begin -/

@[simp] theorem State.begin_cfg (s : State) (i : Instr) : (s.begin i).cfg = s.cfg := rfl
@[simp] theorem State.begin_width (s : State) (i : Instr) : (s.begin i).width = s.width := rfl
@[simp] theorem State.begin_height (s : State) (i : Instr) : (s.begin i).height = s.height := rfl
@[simp] theorem State.begin_rotation (s : State) (i : Instr) : (s.begin i).rotation = s.rotation := rfl
@[simp] theorem State.begin_cursorX (s : State) (i : Instr) : (s.begin i).cursorX = s.cursorX := rfl
@[simp] theorem State.begin_cursorY (s : State) (i : Instr) : (s.begin i).cursorY = s.cursorY := rfl
@[simp] theorem State.begin_initDone (s : State) (i : Instr) : (s.begin i).initDone = s.initDone := rfl
@[simp] theorem State.begin_dcCfg (s : State) (i : Instr) : (s.begin i).dcCfg = s.dcCfg := rfl
@[simp] theorem State.begin_dc (s : State) (i : Instr) : (s.begin i).dc = s.dc := rfl
@[simp] theorem State.begin_proto (s : State) (i : Instr) : (s.begin i).proto = s.proto := rfl
@[simp] theorem State.begin_winSc (s : State) (i : Instr) : (s.begin i).winSc = s.winSc := rfl
@[simp] theorem State.begin_winEc (s : State) (i : Instr) : (s.begin i).winEc = s.winEc := rfl
@[simp] theorem State.begin_winSp (s : State) (i : Instr) : (s.begin i).winSp = s.winSp := rfl
@[simp] theorem State.begin_winEp (s : State) (i : Instr) : (s.begin i).winEp = s.winEp := rfl
@[simp] theorem State.begin_viol (s : State) (i : Instr) : (s.begin i).viol = s.viol := rfl
@[simp] theorem State.begin_fault (s : State) (i : Instr) : (s.begin i).fault = s.fault := rfl
@[simp] theorem State.begin_refused (s : State) (i : Instr) : (s.begin i).refused = s.refused := rfl
@[simp] theorem State.begin_trace (s : State) (i : Instr) : (s.begin i).trace = s.trace := rfl
@[simp] theorem State.begin_req (s : State) (i : Instr) : (s.begin i).req = some i := rfl
@[simp] theorem State.begin_stepIdx (s : State) (i : Instr) : (s.begin i).stepIdx = 0 := rfl
@[simp] theorem State.begin_elem (s : State) (i : Instr) : (s.begin i).elem = none := rfl
@[simp] theorem State.begin_port (s : State) (i : Instr) : (s.begin i).port = s.port := rfl
@[simp] theorem State.begin_input (s : State) (i : Instr) : (s.begin i).input = s.input := rfl
@[simp] theorem State.begin_readData (s : State) (i : Instr) : (s.begin i).readData = s.readData := rfl
@[simp] theorem State.begin_mem (s : State) (i : Instr) : (s.begin i).mem = s.mem := rfl
@[simp] theorem State.begin_accepts (s : State) (i : Instr) : (s.begin i).accepts = s.accepts := rfl

/-! ### State.advance -/

@[simp] theorem State.advance_cfg (s : State) : (s.advance).cfg = s.cfg := rfl
@[simp] theorem State.advance_width (s : State) : (s.advance).width = s.width := rfl
@[simp] theorem State.advance_height (s : State) : (s.advance).height = s.height := rfl
@[simp] theorem State.advance_rotation (s : State) : (s.advance).rotation = s.rotation := rfl
@[simp] theorem State.advance_cursorX (s : State) : (s.advance).cursorX = s.cursorX := rfl
@[simp] theorem State.advance_cursorY (s : State) : (s.advance).cursorY = s.cursorY := rfl
@[simp] theorem State.advance_initDone (s : State) : (s.advance).initDone = s.initDone := rfl
@[simp] theorem State.advance_dcCfg (s : State) : (s.advance).dcCfg = s.dcCfg := rfl
@[simp] theorem State.advance_dc (s : State) : (s.advance).dc = s.dc := rfl
@[simp] theorem State.advance_proto (s : State) : (s.advance).proto = s.proto := rfl
@[simp] theorem State.advance_winSc (s : State) : (s.advance).winSc = s.winSc := rfl
@[simp] theorem State.advance_winEc (s : State) : (s.advance).winEc = s.winEc := rfl
@[simp] theorem State.advance_winSp (s : State) : (s.advance).winSp = s.winSp := rfl
@[simp] theorem State.advance_winEp (s : State) : (s.advance).winEp = s.winEp := rfl
@[simp] theorem State.advance_viol (s : State) : (s.advance).viol = s.viol := rfl
@[simp] theorem State.advance_fault (s : State) : (s.advance).fault = s.fault := rfl
@[simp] theorem State.advance_refused (s : State) : (s.advance).refused = s.refused := rfl
@[simp] theorem State.advance_trace (s : State) : (s.advance).trace = s.trace := rfl
@[simp] theorem State.advance_req (s : State) : (s.advance).req = s.req := rfl
@[simp] theorem State.advance_stepIdx (s : State) : (s.advance).stepIdx = s.stepIdx + 1 := rfl
@[simp] theorem State.advance_elem (s : State) : (s.advance).elem = s.elem := rfl
@[simp] theorem State.advance_port (s : State) : (s.advance).port = s.port := rfl
@[simp] theorem State.advance_input (s : State) : (s.advance).input = s.input := rfl
@[simp] theorem State.advance_readData (s : State) : (s.advance).readData = s.readData := rfl
@[simp] theorem State.advance_mem (s : State) : (s.advance).mem = s.mem := rfl
@[simp] theorem State.advance_accepts (s : State) : (s.advance).accepts = s.accepts := rfl

/-! ### record -/

@[simp] theorem record_cfg (e : Event) (s : State) : (record e s).cfg = s.cfg := rfl
@[simp] theorem record_width (e : Event) (s : State) : (record e s).width = s.width := rfl
@[simp] theorem record_height (e : Event) (s : State) : (record e s).height = s.height := rfl
@[simp] theorem record_rotation (e : Event) (s : State) : (record e s).rotation = s.rotation := rfl
@[simp] theorem record_cursorX (e : Event) (s : State) : (record e s).cursorX = s.cursorX := rfl
@[simp] theorem record_cursorY (e : Event) (s : State) : (record e s).cursorY = s.cursorY := rfl
@[simp] theorem record_initDone (e : Event) (s : State) : (record e s).initDone = s.initDone := rfl
@[simp] theorem record_dcCfg (e : Event) (s : State) : (record e s).dcCfg = s.dcCfg := rfl
@[simp] theorem record_dc (e : Event) (s : State) : (record e s).dc = s.dc := rfl
@[simp] theorem record_proto (e : Event) (s : State) : (record e s).proto = s.proto := rfl
@[simp] theorem record_winSc (e : Event) (s : State) : (record e s).winSc = s.winSc := rfl
@[simp] theorem record_winEc (e : Event) (s : State) : (record e s).winEc = s.winEc := rfl
@[simp] theorem record_winSp (e : Event) (s : State) : (record e s).winSp = s.winSp := rfl
@[simp] theorem record_winEp (e : Event) (s : State) : (record e s).winEp = s.winEp := rfl
@[simp] theorem record_viol (e : Event) (s : State) : (record e s).viol = s.viol := rfl
@[simp] theorem record_fault (e : Event) (s : State) : (record e s).fault = s.fault := rfl
@[simp] theorem record_refused (e : Event) (s : State) : (record e s).refused = s.refused := rfl
@[simp] theorem record_trace (e : Event) (s : State) : (record e s).trace = s.trace ++ [e] := rfl
@[simp] theorem record_req (e : Event) (s : State) : (record e s).req = s.req := rfl
@[simp] theorem record_stepIdx (e : Event) (s : State) : (record e s).stepIdx = s.stepIdx := rfl
@[simp] theorem record_elem (e : Event) (s : State) : (record e s).elem = s.elem := rfl
@[simp] theorem record_port (e : Event) (s : State) : (record e s).port = s.port := rfl
@[simp] theorem record_input (e : Event) (s : State) : (record e s).input = s.input := rfl
@[simp] theorem record_readData (e : Event) (s : State) : (record e s).readData = s.readData := rfl
@[simp] theorem record_mem (e : Event) (s : State) : (record e s).mem = s.mem := rfl
@[simp] theorem record_accepts (e : Event) (s : State) : (record e s).accepts = s.accepts := rfl

/-! ### configureDc -/

@[simp] theorem configureDc_cfg (s : State) : (configureDc s).cfg = s.cfg := rfl
@[simp] theorem configureDc_width (s : State) : (configureDc s).width = s.width := rfl
@[simp] theorem configureDc_height (s : State) : (configureDc s).height = s.height := rfl
@[simp] theorem configureDc_rotation (s : State) : (configureDc s).rotation = s.rotation := rfl
@[simp] theorem configureDc_cursorX (s : State) : (configureDc s).cursorX = s.cursorX := rfl
@[simp] theorem configureDc_cursorY (s : State) : (configureDc s).cursorY = s.cursorY := rfl
@[simp] theorem configureDc_initDone (s : State) : (configureDc s).initDone = s.initDone := rfl
@[simp] theorem configureDc_dcCfg (s : State) : (configureDc s).dcCfg = true := rfl
@[simp] theorem configureDc_dc (s : State) : (configureDc s).dc = .undef := rfl
@[simp] theorem configureDc_proto (s : State) : (configureDc s).proto = s.proto := rfl
@[simp] theorem configureDc_winSc (s : State) : (configureDc s).winSc = s.winSc := rfl
@[simp] theorem configureDc_winEc (s : State) : (configureDc s).winEc = s.winEc := rfl
@[simp] theorem configureDc_winSp (s : State) : (configureDc s).winSp = s.winSp := rfl
@[simp] theorem configureDc_winEp (s : State) : (configureDc s).winEp = s.winEp := rfl
@[simp] theorem configureDc_viol (s : State) : (configureDc s).viol = s.viol := rfl
@[simp] theorem configureDc_fault (s : State) : (configureDc s).fault = s.fault := rfl
@[simp] theorem configureDc_refused (s : State) : (configureDc s).refused = s.refused := rfl
@[simp] theorem configureDc_trace (s : State) : (configureDc s).trace = s.trace := rfl
@[simp] theorem configureDc_req (s : State) : (configureDc s).req = s.req := rfl
@[simp] theorem configureDc_stepIdx (s : State) : (configureDc s).stepIdx = s.stepIdx := rfl
@[simp] theorem configureDc_elem (s : State) : (configureDc s).elem = s.elem := rfl
@[simp] theorem configureDc_port (s : State) : (configureDc s).port = s.port := rfl
@[simp] theorem configureDc_input (s : State) : (configureDc s).input = s.input := rfl
@[simp] theorem configureDc_readData (s : State) : (configureDc s).readData = s.readData := rfl
@[simp] theorem configureDc_mem (s : State) : (configureDc s).mem = s.mem := rfl
@[simp] theorem configureDc_accepts (s : State) : (configureDc s).accepts = s.accepts := rfl

/-! ### setGeometry -/

@[simp] theorem setGeometry_cfg (m : BitVec 2) (s : State) : (setGeometry m s).cfg = s.cfg := rfl
@[simp] theorem setGeometry_width (m : BitVec 2) (s : State) : (setGeometry m s).width = some (rotationWidth m) := rfl
@[simp] theorem setGeometry_height (m : BitVec 2) (s : State) : (setGeometry m s).height = some (rotationHeight m) := rfl
@[simp] theorem setGeometry_rotation (m : BitVec 2) (s : State) : (setGeometry m s).rotation = some m := rfl
@[simp] theorem setGeometry_cursorX (m : BitVec 2) (s : State) : (setGeometry m s).cursorX = s.cursorX := rfl
@[simp] theorem setGeometry_cursorY (m : BitVec 2) (s : State) : (setGeometry m s).cursorY = s.cursorY := rfl
@[simp] theorem setGeometry_initDone (m : BitVec 2) (s : State) : (setGeometry m s).initDone = s.initDone := rfl
@[simp] theorem setGeometry_dcCfg (m : BitVec 2) (s : State) : (setGeometry m s).dcCfg = s.dcCfg := rfl
@[simp] theorem setGeometry_dc (m : BitVec 2) (s : State) : (setGeometry m s).dc = s.dc := rfl
@[simp] theorem setGeometry_proto (m : BitVec 2) (s : State) : (setGeometry m s).proto = s.proto := rfl
@[simp] theorem setGeometry_winSc (m : BitVec 2) (s : State) : (setGeometry m s).winSc = s.winSc := rfl
@[simp] theorem setGeometry_winEc (m : BitVec 2) (s : State) : (setGeometry m s).winEc = s.winEc := rfl
@[simp] theorem setGeometry_winSp (m : BitVec 2) (s : State) : (setGeometry m s).winSp = s.winSp := rfl
@[simp] theorem setGeometry_winEp (m : BitVec 2) (s : State) : (setGeometry m s).winEp = s.winEp := rfl
@[simp] theorem setGeometry_viol (m : BitVec 2) (s : State) : (setGeometry m s).viol = s.viol := rfl
@[simp] theorem setGeometry_fault (m : BitVec 2) (s : State) : (setGeometry m s).fault = s.fault := rfl
@[simp] theorem setGeometry_refused (m : BitVec 2) (s : State) : (setGeometry m s).refused = s.refused := rfl
@[simp] theorem setGeometry_trace (m : BitVec 2) (s : State) : (setGeometry m s).trace = s.trace := rfl
@[simp] theorem setGeometry_req (m : BitVec 2) (s : State) : (setGeometry m s).req = s.req := rfl
@[simp] theorem setGeometry_stepIdx (m : BitVec 2) (s : State) : (setGeometry m s).stepIdx = s.stepIdx := rfl
@[simp] theorem setGeometry_elem (m : BitVec 2) (s : State) : (setGeometry m s).elem = s.elem := rfl
@[simp] theorem setGeometry_port (m : BitVec 2) (s : State) : (setGeometry m s).port = s.port := rfl
@[simp] theorem setGeometry_input (m : BitVec 2) (s : State) : (setGeometry m s).input = s.input := rfl
@[simp] theorem setGeometry_readData (m : BitVec 2) (s : State) : (setGeometry m s).readData = s.readData := rfl
@[simp] theorem setGeometry_mem (m : BitVec 2) (s : State) : (setGeometry m s).mem = s.mem := rfl
@[simp] theorem setGeometry_accepts (m : BitVec 2) (s : State) : (setGeometry m s).accepts = s.accepts := rfl

/-! ### setCursor -/

@[simp] theorem setCursor_cfg (x y : Half) (s : State) : (setCursor x y s).cfg = s.cfg := rfl
@[simp] theorem setCursor_width (x y : Half) (s : State) : (setCursor x y s).width = s.width := rfl
@[simp] theorem setCursor_height (x y : Half) (s : State) : (setCursor x y s).height = s.height := rfl
@[simp] theorem setCursor_rotation (x y : Half) (s : State) : (setCursor x y s).rotation = s.rotation := rfl
@[simp] theorem setCursor_cursorX (x y : Half) (s : State) : (setCursor x y s).cursorX = some x := rfl
@[simp] theorem setCursor_cursorY (x y : Half) (s : State) : (setCursor x y s).cursorY = some y := rfl
@[simp] theorem setCursor_initDone (x y : Half) (s : State) : (setCursor x y s).initDone = s.initDone := rfl
@[simp] theorem setCursor_dcCfg (x y : Half) (s : State) : (setCursor x y s).dcCfg = s.dcCfg := rfl
@[simp] theorem setCursor_dc (x y : Half) (s : State) : (setCursor x y s).dc = s.dc := rfl
@[simp] theorem setCursor_proto (x y : Half) (s : State) : (setCursor x y s).proto = s.proto := rfl
@[simp] theorem setCursor_winSc (x y : Half) (s : State) : (setCursor x y s).winSc = s.winSc := rfl
@[simp] theorem setCursor_winEc (x y : Half) (s : State) : (setCursor x y s).winEc = s.winEc := rfl
@[simp] theorem setCursor_winSp (x y : Half) (s : State) : (setCursor x y s).winSp = s.winSp := rfl
@[simp] theorem setCursor_winEp (x y : Half) (s : State) : (setCursor x y s).winEp = s.winEp := rfl
@[simp] theorem setCursor_viol (x y : Half) (s : State) : (setCursor x y s).viol = s.viol := rfl
@[simp] theorem setCursor_fault (x y : Half) (s : State) : (setCursor x y s).fault = s.fault := rfl
@[simp] theorem setCursor_refused (x y : Half) (s : State) : (setCursor x y s).refused = s.refused := rfl
@[simp] theorem setCursor_trace (x y : Half) (s : State) : (setCursor x y s).trace = s.trace := rfl
@[simp] theorem setCursor_req (x y : Half) (s : State) : (setCursor x y s).req = s.req := rfl
@[simp] theorem setCursor_stepIdx (x y : Half) (s : State) : (setCursor x y s).stepIdx = s.stepIdx := rfl
@[simp] theorem setCursor_elem (x y : Half) (s : State) : (setCursor x y s).elem = s.elem := rfl
@[simp] theorem setCursor_port (x y : Half) (s : State) : (setCursor x y s).port = s.port := rfl
@[simp] theorem setCursor_input (x y : Half) (s : State) : (setCursor x y s).input = s.input := rfl
@[simp] theorem setCursor_readData (x y : Half) (s : State) : (setCursor x y s).readData = s.readData := rfl
@[simp] theorem setCursor_mem (x y : Half) (s : State) : (setCursor x y s).mem = s.mem := rfl
@[simp] theorem setCursor_accepts (x y : Half) (s : State) : (setCursor x y s).accepts = s.accepts := rfl

/-! ### forgetColumns -/

@[simp] theorem forgetColumns_cfg (s : State) : (forgetColumns s).cfg = s.cfg := rfl
@[simp] theorem forgetColumns_width (s : State) : (forgetColumns s).width = s.width := rfl
@[simp] theorem forgetColumns_height (s : State) : (forgetColumns s).height = s.height := rfl
@[simp] theorem forgetColumns_rotation (s : State) : (forgetColumns s).rotation = s.rotation := rfl
@[simp] theorem forgetColumns_cursorX (s : State) : (forgetColumns s).cursorX = s.cursorX := rfl
@[simp] theorem forgetColumns_cursorY (s : State) : (forgetColumns s).cursorY = s.cursorY := rfl
@[simp] theorem forgetColumns_initDone (s : State) : (forgetColumns s).initDone = s.initDone := rfl
@[simp] theorem forgetColumns_dcCfg (s : State) : (forgetColumns s).dcCfg = s.dcCfg := rfl
@[simp] theorem forgetColumns_dc (s : State) : (forgetColumns s).dc = s.dc := rfl
@[simp] theorem forgetColumns_proto (s : State) : (forgetColumns s).proto = s.proto := rfl
@[simp] theorem forgetColumns_winSc (s : State) : (forgetColumns s).winSc = none := rfl
@[simp] theorem forgetColumns_winEc (s : State) : (forgetColumns s).winEc = none := rfl
@[simp] theorem forgetColumns_winSp (s : State) : (forgetColumns s).winSp = s.winSp := rfl
@[simp] theorem forgetColumns_winEp (s : State) : (forgetColumns s).winEp = s.winEp := rfl
@[simp] theorem forgetColumns_viol (s : State) : (forgetColumns s).viol = s.viol := rfl
@[simp] theorem forgetColumns_fault (s : State) : (forgetColumns s).fault = s.fault := rfl
@[simp] theorem forgetColumns_refused (s : State) : (forgetColumns s).refused = s.refused := rfl
@[simp] theorem forgetColumns_trace (s : State) : (forgetColumns s).trace = s.trace := rfl
@[simp] theorem forgetColumns_req (s : State) : (forgetColumns s).req = s.req := rfl
@[simp] theorem forgetColumns_stepIdx (s : State) : (forgetColumns s).stepIdx = s.stepIdx := rfl
@[simp] theorem forgetColumns_elem (s : State) : (forgetColumns s).elem = s.elem := rfl
@[simp] theorem forgetColumns_port (s : State) : (forgetColumns s).port = s.port := rfl
@[simp] theorem forgetColumns_input (s : State) : (forgetColumns s).input = s.input := rfl
@[simp] theorem forgetColumns_readData (s : State) : (forgetColumns s).readData = s.readData := rfl
@[simp] theorem forgetColumns_mem (s : State) : (forgetColumns s).mem = s.mem := rfl
@[simp] theorem forgetColumns_accepts (s : State) : (forgetColumns s).accepts = s.accepts := rfl

/-! ### forgetPages -/

@[simp] theorem forgetPages_cfg (s : State) : (forgetPages s).cfg = s.cfg := rfl
@[simp] theorem forgetPages_width (s : State) : (forgetPages s).width = s.width := rfl
@[simp] theorem forgetPages_height (s : State) : (forgetPages s).height = s.height := rfl
@[simp] theorem forgetPages_rotation (s : State) : (forgetPages s).rotation = s.rotation := rfl
@[simp] theorem forgetPages_cursorX (s : State) : (forgetPages s).cursorX = s.cursorX := rfl
@[simp] theorem forgetPages_cursorY (s : State) : (forgetPages s).cursorY = s.cursorY := rfl
@[simp] theorem forgetPages_initDone (s : State) : (forgetPages s).initDone = s.initDone := rfl
@[simp] theorem forgetPages_dcCfg (s : State) : (forgetPages s).dcCfg = s.dcCfg := rfl
@[simp] theorem forgetPages_dc (s : State) : (forgetPages s).dc = s.dc := rfl
@[simp] theorem forgetPages_proto (s : State) : (forgetPages s).proto = s.proto := rfl
@[simp] theorem forgetPages_winSc (s : State) : (forgetPages s).winSc = s.winSc := rfl
@[simp] theorem forgetPages_winEc (s : State) : (forgetPages s).winEc = s.winEc := rfl
@[simp] theorem forgetPages_winSp (s : State) : (forgetPages s).winSp = none := rfl
@[simp] theorem forgetPages_winEp (s : State) : (forgetPages s).winEp = none := rfl
@[simp] theorem forgetPages_viol (s : State) : (forgetPages s).viol = s.viol := rfl
@[simp] theorem forgetPages_fault (s : State) : (forgetPages s).fault = s.fault := rfl
@[simp] theorem forgetPages_refused (s : State) : (forgetPages s).refused = s.refused := rfl
@[simp] theorem forgetPages_trace (s : State) : (forgetPages s).trace = s.trace := rfl
@[simp] theorem forgetPages_req (s : State) : (forgetPages s).req = s.req := rfl
@[simp] theorem forgetPages_stepIdx (s : State) : (forgetPages s).stepIdx = s.stepIdx := rfl
@[simp] theorem forgetPages_elem (s : State) : (forgetPages s).elem = s.elem := rfl
@[simp] theorem forgetPages_port (s : State) : (forgetPages s).port = s.port := rfl
@[simp] theorem forgetPages_input (s : State) : (forgetPages s).input = s.input := rfl
@[simp] theorem forgetPages_readData (s : State) : (forgetPages s).readData = s.readData := rfl
@[simp] theorem forgetPages_mem (s : State) : (forgetPages s).mem = s.mem := rfl
@[simp] theorem forgetPages_accepts (s : State) : (forgetPages s).accepts = s.accepts := rfl

/-! ### raise -/

@[simp] theorem raise_cfg (f : FaultCode) (info : Word) (s : State) : (raise f info s).cfg = s.cfg := rfl
@[simp] theorem raise_width (f : FaultCode) (info : Word) (s : State) : (raise f info s).width = s.width := rfl
@[simp] theorem raise_height (f : FaultCode) (info : Word) (s : State) : (raise f info s).height = s.height := rfl
@[simp] theorem raise_rotation (f : FaultCode) (info : Word) (s : State) : (raise f info s).rotation = s.rotation := rfl
@[simp] theorem raise_cursorX (f : FaultCode) (info : Word) (s : State) : (raise f info s).cursorX = s.cursorX := rfl
@[simp] theorem raise_cursorY (f : FaultCode) (info : Word) (s : State) : (raise f info s).cursorY = s.cursorY := rfl
@[simp] theorem raise_initDone (f : FaultCode) (info : Word) (s : State) : (raise f info s).initDone = s.initDone := rfl
@[simp] theorem raise_dcCfg (f : FaultCode) (info : Word) (s : State) : (raise f info s).dcCfg = s.dcCfg := rfl
@[simp] theorem raise_dc (f : FaultCode) (info : Word) (s : State) : (raise f info s).dc = s.dc := rfl
@[simp] theorem raise_proto (f : FaultCode) (info : Word) (s : State) : (raise f info s).proto = s.proto := rfl
@[simp] theorem raise_winSc (f : FaultCode) (info : Word) (s : State) : (raise f info s).winSc = s.winSc := rfl
@[simp] theorem raise_winEc (f : FaultCode) (info : Word) (s : State) : (raise f info s).winEc = s.winEc := rfl
@[simp] theorem raise_winSp (f : FaultCode) (info : Word) (s : State) : (raise f info s).winSp = s.winSp := rfl
@[simp] theorem raise_winEp (f : FaultCode) (info : Word) (s : State) : (raise f info s).winEp = s.winEp := rfl
@[simp] theorem raise_viol (f : FaultCode) (info : Word) (s : State) : (raise f info s).viol = s.viol := rfl
@[simp] theorem raise_fault (f : FaultCode) (info : Word) (s : State) : (raise f info s).fault = some (f, info) := rfl
@[simp] theorem raise_refused (f : FaultCode) (info : Word) (s : State) : (raise f info s).refused = s.refused := rfl
@[simp] theorem raise_trace (f : FaultCode) (info : Word) (s : State) : (raise f info s).trace = s.trace := rfl
@[simp] theorem raise_req (f : FaultCode) (info : Word) (s : State) : (raise f info s).req = none := rfl
@[simp] theorem raise_stepIdx (f : FaultCode) (info : Word) (s : State) : (raise f info s).stepIdx = 0 := rfl
@[simp] theorem raise_elem (f : FaultCode) (info : Word) (s : State) : (raise f info s).elem = none := rfl
@[simp] theorem raise_port (f : FaultCode) (info : Word) (s : State) : (raise f info s).port = s.port := rfl
@[simp] theorem raise_input (f : FaultCode) (info : Word) (s : State) : (raise f info s).input = s.input := rfl
@[simp] theorem raise_readData (f : FaultCode) (info : Word) (s : State) : (raise f info s).readData = s.readData := rfl
@[simp] theorem raise_mem (f : FaultCode) (info : Word) (s : State) : (raise f info s).mem = s.mem := rfl
@[simp] theorem raise_accepts (f : FaultCode) (info : Word) (s : State) : (raise f info s).accepts = s.accepts := rfl

/-! ### refuse -/

@[simp] theorem refuse_cfg (w : RefusalCode) (s : State) : (refuse w s).cfg = s.cfg := rfl
@[simp] theorem refuse_width (w : RefusalCode) (s : State) : (refuse w s).width = s.width := rfl
@[simp] theorem refuse_height (w : RefusalCode) (s : State) : (refuse w s).height = s.height := rfl
@[simp] theorem refuse_rotation (w : RefusalCode) (s : State) : (refuse w s).rotation = s.rotation := rfl
@[simp] theorem refuse_cursorX (w : RefusalCode) (s : State) : (refuse w s).cursorX = s.cursorX := rfl
@[simp] theorem refuse_cursorY (w : RefusalCode) (s : State) : (refuse w s).cursorY = s.cursorY := rfl
@[simp] theorem refuse_initDone (w : RefusalCode) (s : State) : (refuse w s).initDone = s.initDone := rfl
@[simp] theorem refuse_dcCfg (w : RefusalCode) (s : State) : (refuse w s).dcCfg = s.dcCfg := rfl
@[simp] theorem refuse_dc (w : RefusalCode) (s : State) : (refuse w s).dc = s.dc := rfl
@[simp] theorem refuse_proto (w : RefusalCode) (s : State) : (refuse w s).proto = s.proto := rfl
@[simp] theorem refuse_winSc (w : RefusalCode) (s : State) : (refuse w s).winSc = s.winSc := rfl
@[simp] theorem refuse_winEc (w : RefusalCode) (s : State) : (refuse w s).winEc = s.winEc := rfl
@[simp] theorem refuse_winSp (w : RefusalCode) (s : State) : (refuse w s).winSp = s.winSp := rfl
@[simp] theorem refuse_winEp (w : RefusalCode) (s : State) : (refuse w s).winEp = s.winEp := rfl
@[simp] theorem refuse_viol (w : RefusalCode) (s : State) : (refuse w s).viol = s.viol := rfl
@[simp] theorem refuse_fault (w : RefusalCode) (s : State) : (refuse w s).fault = s.fault := rfl
@[simp] theorem refuse_refused (w : RefusalCode) (s : State) : (refuse w s).refused = some w := rfl
@[simp] theorem refuse_trace (w : RefusalCode) (s : State) : (refuse w s).trace = s.trace := rfl
@[simp] theorem refuse_req (w : RefusalCode) (s : State) : (refuse w s).req = none := rfl
@[simp] theorem refuse_stepIdx (w : RefusalCode) (s : State) : (refuse w s).stepIdx = 0 := rfl
@[simp] theorem refuse_elem (w : RefusalCode) (s : State) : (refuse w s).elem = none := rfl
@[simp] theorem refuse_port (w : RefusalCode) (s : State) : (refuse w s).port = s.port := rfl
@[simp] theorem refuse_input (w : RefusalCode) (s : State) : (refuse w s).input = s.input := rfl
@[simp] theorem refuse_readData (w : RefusalCode) (s : State) : (refuse w s).readData = s.readData := rfl
@[simp] theorem refuse_mem (w : RefusalCode) (s : State) : (refuse w s).mem = s.mem := rfl
@[simp] theorem refuse_accepts (w : RefusalCode) (s : State) : (refuse w s).accepts = s.accepts := rfl

/-! ### consumeWords -/

@[simp] theorem consumeWords_cfg (n : Nat) (s : State) : (consumeWords n s).cfg = s.cfg := rfl
@[simp] theorem consumeWords_width (n : Nat) (s : State) : (consumeWords n s).width = s.width := rfl
@[simp] theorem consumeWords_height (n : Nat) (s : State) : (consumeWords n s).height = s.height := rfl
@[simp] theorem consumeWords_rotation (n : Nat) (s : State) : (consumeWords n s).rotation = s.rotation := rfl
@[simp] theorem consumeWords_cursorX (n : Nat) (s : State) : (consumeWords n s).cursorX = s.cursorX := rfl
@[simp] theorem consumeWords_cursorY (n : Nat) (s : State) : (consumeWords n s).cursorY = s.cursorY := rfl
@[simp] theorem consumeWords_initDone (n : Nat) (s : State) : (consumeWords n s).initDone = s.initDone := rfl
@[simp] theorem consumeWords_dcCfg (n : Nat) (s : State) : (consumeWords n s).dcCfg = s.dcCfg := rfl
@[simp] theorem consumeWords_dc (n : Nat) (s : State) : (consumeWords n s).dc = s.dc := rfl
@[simp] theorem consumeWords_proto (n : Nat) (s : State) : (consumeWords n s).proto = s.proto := rfl
@[simp] theorem consumeWords_winSc (n : Nat) (s : State) : (consumeWords n s).winSc = s.winSc := rfl
@[simp] theorem consumeWords_winEc (n : Nat) (s : State) : (consumeWords n s).winEc = s.winEc := rfl
@[simp] theorem consumeWords_winSp (n : Nat) (s : State) : (consumeWords n s).winSp = s.winSp := rfl
@[simp] theorem consumeWords_winEp (n : Nat) (s : State) : (consumeWords n s).winEp = s.winEp := rfl
@[simp] theorem consumeWords_viol (n : Nat) (s : State) : (consumeWords n s).viol = s.viol := rfl
@[simp] theorem consumeWords_fault (n : Nat) (s : State) : (consumeWords n s).fault = s.fault := rfl
@[simp] theorem consumeWords_refused (n : Nat) (s : State) : (consumeWords n s).refused = s.refused := rfl
@[simp] theorem consumeWords_trace (n : Nat) (s : State) : (consumeWords n s).trace = s.trace := rfl
@[simp] theorem consumeWords_req (n : Nat) (s : State) : (consumeWords n s).req = s.req := rfl
@[simp] theorem consumeWords_stepIdx (n : Nat) (s : State) : (consumeWords n s).stepIdx = s.stepIdx := rfl
@[simp] theorem consumeWords_elem (n : Nat) (s : State) : (consumeWords n s).elem = s.elem := rfl
@[simp] theorem consumeWords_port (n : Nat) (s : State) : (consumeWords n s).port = s.port.drop n := rfl
@[simp] theorem consumeWords_input (n : Nat) (s : State) : (consumeWords n s).input = s.input := rfl
@[simp] theorem consumeWords_readData (n : Nat) (s : State) : (consumeWords n s).readData = s.readData := rfl
@[simp] theorem consumeWords_mem (n : Nat) (s : State) : (consumeWords n s).mem = s.mem := rfl
@[simp] theorem consumeWords_accepts (n : Nat) (s : State) : (consumeWords n s).accepts = s.accepts := rfl

end Sys2Proof.Machine
end

