-- ==== Sys2Proof/Laws/Flags.lean ====
section
/-! SUPPORT. The violation set and the DC level: what marking adds, and what the conditional updates of Machine/Flags leave
alone. -/

namespace Sys2Proof.Machine

/-! ### The violation set (R33) -/

@[simp] theorem Marks.has_add (m : Marks) (v w : Violation) : (m.add v).has w = (decide (v = w) || m.has w) := by
  cases v <;> cases w <;> simp [Marks.add, Marks.has]

@[simp] theorem Marks.has_empty (v : Violation) : Marks.empty.has v = false := by cases v <;> rfl

/-- Adding a violation twice is adding it once. -/
@[simp] theorem Marks.add_add (m : Marks) (v : Violation) : (m.add v).add v = m.add v := by cases v <;> rfl

/-- The order in which violations are added is not observable (R153). -/
theorem Marks.add_comm (m : Marks) (v w : Violation) : (m.add v).add w = (m.add w).add v := by
  cases v <;> cases w <;> rfl

/-- A violation that is a member already adds nothing. -/
theorem Marks.add_of_has {m : Marks} {v : Violation} (h : m.has v = true) : m.add v = m := by
  cases v <;> cases m <;> simp_all [Marks.add, Marks.has]

/-- A violation set is its members. -/
theorem Marks.ext_has {m n : Marks} (h : ∀ v, m.has v = n.has v) : m = n := by
  cases m; cases n
  have h0 := h .beforeInit; have h1 := h .dcUnconfigured; have h2 := h .dcIndeterminate
  have h3 := h .windowInvalid; have h4 := h .countMismatch; have h5 := h .streamNotOpen
  have h6 := h .paramIncomplete; have h7 := h .paramOverrun; have h8 := h .protocolUnknown
  simp_all [Marks.has]

theorem State.markIf_viol (s : State) (p : Bool) (v : Violation) :
    (s.markIf p v).viol = if p then s.viol.add v else s.viol := by
  unfold State.markIf; split <;> rfl

theorem State.has_markIf (s : State) (p : Bool) (v w : Violation) :
    (s.markIf p v).viol.has w = ((p && decide (v = w)) || s.viol.has w) := by
  rw [State.markIf_viol]; split <;> simp_all

/-! ### The DC level (R85 to R87) -/

theorem driveDc_dc (v : DcLevel) (s : State) : (driveDc v s).dc = if s.dcCfg then v else s.dc := by
  unfold driveDc; split <;> rfl

theorem driveDc_viol (v : DcLevel) (s : State) :
    (driveDc v s).viol = if s.dcCfg then s.viol else s.viol.add .dcUnconfigured := by
  unfold driveDc; split <;> rfl

theorem releaseDc_dc (s : State) : (releaseDc s).dc = if s.dcCfg then .undef else s.dc := by
  unfold releaseDc; split <;> rfl

@[simp] theorem State.markIf_cfg (s : State) (p : Bool) (v : Violation) : (s.markIf p v).cfg = s.cfg := by unfold State.markIf; split <;> rfl
@[simp] theorem State.markIf_width (s : State) (p : Bool) (v : Violation) : (s.markIf p v).width = s.width := by unfold State.markIf; split <;> rfl
@[simp] theorem State.markIf_height (s : State) (p : Bool) (v : Violation) : (s.markIf p v).height = s.height := by unfold State.markIf; split <;> rfl
@[simp] theorem State.markIf_rotation (s : State) (p : Bool) (v : Violation) : (s.markIf p v).rotation = s.rotation := by unfold State.markIf; split <;> rfl
@[simp] theorem State.markIf_cursorX (s : State) (p : Bool) (v : Violation) : (s.markIf p v).cursorX = s.cursorX := by unfold State.markIf; split <;> rfl
@[simp] theorem State.markIf_cursorY (s : State) (p : Bool) (v : Violation) : (s.markIf p v).cursorY = s.cursorY := by unfold State.markIf; split <;> rfl
@[simp] theorem State.markIf_initDone (s : State) (p : Bool) (v : Violation) : (s.markIf p v).initDone = s.initDone := by unfold State.markIf; split <;> rfl
@[simp] theorem State.markIf_dcCfg (s : State) (p : Bool) (v : Violation) : (s.markIf p v).dcCfg = s.dcCfg := by unfold State.markIf; split <;> rfl
@[simp] theorem State.markIf_dc (s : State) (p : Bool) (v : Violation) : (s.markIf p v).dc = s.dc := by unfold State.markIf; split <;> rfl
@[simp] theorem State.markIf_proto (s : State) (p : Bool) (v : Violation) : (s.markIf p v).proto = s.proto := by unfold State.markIf; split <;> rfl
@[simp] theorem State.markIf_winSc (s : State) (p : Bool) (v : Violation) : (s.markIf p v).winSc = s.winSc := by unfold State.markIf; split <;> rfl
@[simp] theorem State.markIf_winEc (s : State) (p : Bool) (v : Violation) : (s.markIf p v).winEc = s.winEc := by unfold State.markIf; split <;> rfl
@[simp] theorem State.markIf_winSp (s : State) (p : Bool) (v : Violation) : (s.markIf p v).winSp = s.winSp := by unfold State.markIf; split <;> rfl
@[simp] theorem State.markIf_winEp (s : State) (p : Bool) (v : Violation) : (s.markIf p v).winEp = s.winEp := by unfold State.markIf; split <;> rfl
@[simp] theorem State.markIf_fault (s : State) (p : Bool) (v : Violation) : (s.markIf p v).fault = s.fault := by unfold State.markIf; split <;> rfl
@[simp] theorem State.markIf_refused (s : State) (p : Bool) (v : Violation) : (s.markIf p v).refused = s.refused := by unfold State.markIf; split <;> rfl
@[simp] theorem State.markIf_trace (s : State) (p : Bool) (v : Violation) : (s.markIf p v).trace = s.trace := by unfold State.markIf; split <;> rfl
@[simp] theorem State.markIf_req (s : State) (p : Bool) (v : Violation) : (s.markIf p v).req = s.req := by unfold State.markIf; split <;> rfl
@[simp] theorem State.markIf_stepIdx (s : State) (p : Bool) (v : Violation) : (s.markIf p v).stepIdx = s.stepIdx := by unfold State.markIf; split <;> rfl
@[simp] theorem State.markIf_elem (s : State) (p : Bool) (v : Violation) : (s.markIf p v).elem = s.elem := by unfold State.markIf; split <;> rfl
@[simp] theorem State.markIf_port (s : State) (p : Bool) (v : Violation) : (s.markIf p v).port = s.port := by unfold State.markIf; split <;> rfl
@[simp] theorem State.markIf_input (s : State) (p : Bool) (v : Violation) : (s.markIf p v).input = s.input := by unfold State.markIf; split <;> rfl
@[simp] theorem State.markIf_readData (s : State) (p : Bool) (v : Violation) : (s.markIf p v).readData = s.readData := by unfold State.markIf; split <;> rfl
@[simp] theorem State.markIf_mem (s : State) (p : Bool) (v : Violation) : (s.markIf p v).mem = s.mem := by unfold State.markIf; split <;> rfl
@[simp] theorem State.markIf_accepts (s : State) (p : Bool) (v : Violation) : (s.markIf p v).accepts = s.accepts := by unfold State.markIf; split <;> rfl

@[simp] theorem driveDc_cfg (v : DcLevel) (s : State) : (driveDc v s).cfg = s.cfg := by unfold driveDc; split <;> rfl
@[simp] theorem driveDc_width (v : DcLevel) (s : State) : (driveDc v s).width = s.width := by unfold driveDc; split <;> rfl
@[simp] theorem driveDc_height (v : DcLevel) (s : State) : (driveDc v s).height = s.height := by unfold driveDc; split <;> rfl
@[simp] theorem driveDc_rotation (v : DcLevel) (s : State) : (driveDc v s).rotation = s.rotation := by unfold driveDc; split <;> rfl
@[simp] theorem driveDc_cursorX (v : DcLevel) (s : State) : (driveDc v s).cursorX = s.cursorX := by unfold driveDc; split <;> rfl
@[simp] theorem driveDc_cursorY (v : DcLevel) (s : State) : (driveDc v s).cursorY = s.cursorY := by unfold driveDc; split <;> rfl
@[simp] theorem driveDc_initDone (v : DcLevel) (s : State) : (driveDc v s).initDone = s.initDone := by unfold driveDc; split <;> rfl
@[simp] theorem driveDc_dcCfg (v : DcLevel) (s : State) : (driveDc v s).dcCfg = s.dcCfg := by unfold driveDc; split <;> rfl
@[simp] theorem driveDc_proto (v : DcLevel) (s : State) : (driveDc v s).proto = s.proto := by unfold driveDc; split <;> rfl
@[simp] theorem driveDc_winSc (v : DcLevel) (s : State) : (driveDc v s).winSc = s.winSc := by unfold driveDc; split <;> rfl
@[simp] theorem driveDc_winEc (v : DcLevel) (s : State) : (driveDc v s).winEc = s.winEc := by unfold driveDc; split <;> rfl
@[simp] theorem driveDc_winSp (v : DcLevel) (s : State) : (driveDc v s).winSp = s.winSp := by unfold driveDc; split <;> rfl
@[simp] theorem driveDc_winEp (v : DcLevel) (s : State) : (driveDc v s).winEp = s.winEp := by unfold driveDc; split <;> rfl
@[simp] theorem driveDc_fault (v : DcLevel) (s : State) : (driveDc v s).fault = s.fault := by unfold driveDc; split <;> rfl
@[simp] theorem driveDc_refused (v : DcLevel) (s : State) : (driveDc v s).refused = s.refused := by unfold driveDc; split <;> rfl
@[simp] theorem driveDc_trace (v : DcLevel) (s : State) : (driveDc v s).trace = s.trace := by unfold driveDc; split <;> rfl
@[simp] theorem driveDc_req (v : DcLevel) (s : State) : (driveDc v s).req = s.req := by unfold driveDc; split <;> rfl
@[simp] theorem driveDc_stepIdx (v : DcLevel) (s : State) : (driveDc v s).stepIdx = s.stepIdx := by unfold driveDc; split <;> rfl
@[simp] theorem driveDc_elem (v : DcLevel) (s : State) : (driveDc v s).elem = s.elem := by unfold driveDc; split <;> rfl
@[simp] theorem driveDc_port (v : DcLevel) (s : State) : (driveDc v s).port = s.port := by unfold driveDc; split <;> rfl
@[simp] theorem driveDc_input (v : DcLevel) (s : State) : (driveDc v s).input = s.input := by unfold driveDc; split <;> rfl
@[simp] theorem driveDc_readData (v : DcLevel) (s : State) : (driveDc v s).readData = s.readData := by unfold driveDc; split <;> rfl
@[simp] theorem driveDc_mem (v : DcLevel) (s : State) : (driveDc v s).mem = s.mem := by unfold driveDc; split <;> rfl
@[simp] theorem driveDc_accepts (v : DcLevel) (s : State) : (driveDc v s).accepts = s.accepts := by unfold driveDc; split <;> rfl

@[simp] theorem releaseDc_cfg (s : State) : (releaseDc s).cfg = s.cfg := by unfold releaseDc; split <;> rfl
@[simp] theorem releaseDc_width (s : State) : (releaseDc s).width = s.width := by unfold releaseDc; split <;> rfl
@[simp] theorem releaseDc_height (s : State) : (releaseDc s).height = s.height := by unfold releaseDc; split <;> rfl
@[simp] theorem releaseDc_rotation (s : State) : (releaseDc s).rotation = s.rotation := by unfold releaseDc; split <;> rfl
@[simp] theorem releaseDc_cursorX (s : State) : (releaseDc s).cursorX = s.cursorX := by unfold releaseDc; split <;> rfl
@[simp] theorem releaseDc_cursorY (s : State) : (releaseDc s).cursorY = s.cursorY := by unfold releaseDc; split <;> rfl
@[simp] theorem releaseDc_initDone (s : State) : (releaseDc s).initDone = s.initDone := by unfold releaseDc; split <;> rfl
@[simp] theorem releaseDc_dcCfg (s : State) : (releaseDc s).dcCfg = s.dcCfg := by unfold releaseDc; split <;> rfl
@[simp] theorem releaseDc_proto (s : State) : (releaseDc s).proto = s.proto := by unfold releaseDc; split <;> rfl
@[simp] theorem releaseDc_winSc (s : State) : (releaseDc s).winSc = s.winSc := by unfold releaseDc; split <;> rfl
@[simp] theorem releaseDc_winEc (s : State) : (releaseDc s).winEc = s.winEc := by unfold releaseDc; split <;> rfl
@[simp] theorem releaseDc_winSp (s : State) : (releaseDc s).winSp = s.winSp := by unfold releaseDc; split <;> rfl
@[simp] theorem releaseDc_winEp (s : State) : (releaseDc s).winEp = s.winEp := by unfold releaseDc; split <;> rfl
@[simp] theorem releaseDc_viol (s : State) : (releaseDc s).viol = s.viol := by unfold releaseDc; split <;> rfl
@[simp] theorem releaseDc_fault (s : State) : (releaseDc s).fault = s.fault := by unfold releaseDc; split <;> rfl
@[simp] theorem releaseDc_refused (s : State) : (releaseDc s).refused = s.refused := by unfold releaseDc; split <;> rfl
@[simp] theorem releaseDc_trace (s : State) : (releaseDc s).trace = s.trace := by unfold releaseDc; split <;> rfl
@[simp] theorem releaseDc_req (s : State) : (releaseDc s).req = s.req := by unfold releaseDc; split <;> rfl
@[simp] theorem releaseDc_stepIdx (s : State) : (releaseDc s).stepIdx = s.stepIdx := by unfold releaseDc; split <;> rfl
@[simp] theorem releaseDc_elem (s : State) : (releaseDc s).elem = s.elem := by unfold releaseDc; split <;> rfl
@[simp] theorem releaseDc_port (s : State) : (releaseDc s).port = s.port := by unfold releaseDc; split <;> rfl
@[simp] theorem releaseDc_input (s : State) : (releaseDc s).input = s.input := by unfold releaseDc; split <;> rfl
@[simp] theorem releaseDc_readData (s : State) : (releaseDc s).readData = s.readData := by unfold releaseDc; split <;> rfl
@[simp] theorem releaseDc_mem (s : State) : (releaseDc s).mem = s.mem := by unfold releaseDc; split <;> rfl
@[simp] theorem releaseDc_accepts (s : State) : (releaseDc s).accepts = s.accepts := by unfold releaseDc; split <;> rfl

@[simp] theorem markLevel_cfg (s : State) : (markLevel s).cfg = s.cfg := by simp [markLevel]
@[simp] theorem markLevel_width (s : State) : (markLevel s).width = s.width := by simp [markLevel]
@[simp] theorem markLevel_height (s : State) : (markLevel s).height = s.height := by simp [markLevel]
@[simp] theorem markLevel_rotation (s : State) : (markLevel s).rotation = s.rotation := by simp [markLevel]
@[simp] theorem markLevel_cursorX (s : State) : (markLevel s).cursorX = s.cursorX := by simp [markLevel]
@[simp] theorem markLevel_cursorY (s : State) : (markLevel s).cursorY = s.cursorY := by simp [markLevel]
@[simp] theorem markLevel_initDone (s : State) : (markLevel s).initDone = s.initDone := by simp [markLevel]
@[simp] theorem markLevel_dcCfg (s : State) : (markLevel s).dcCfg = s.dcCfg := by simp [markLevel]
@[simp] theorem markLevel_dc (s : State) : (markLevel s).dc = s.dc := by simp [markLevel]
@[simp] theorem markLevel_proto (s : State) : (markLevel s).proto = s.proto := by simp [markLevel]
@[simp] theorem markLevel_winSc (s : State) : (markLevel s).winSc = s.winSc := by simp [markLevel]
@[simp] theorem markLevel_winEc (s : State) : (markLevel s).winEc = s.winEc := by simp [markLevel]
@[simp] theorem markLevel_winSp (s : State) : (markLevel s).winSp = s.winSp := by simp [markLevel]
@[simp] theorem markLevel_winEp (s : State) : (markLevel s).winEp = s.winEp := by simp [markLevel]
@[simp] theorem markLevel_fault (s : State) : (markLevel s).fault = s.fault := by simp [markLevel]
@[simp] theorem markLevel_refused (s : State) : (markLevel s).refused = s.refused := by simp [markLevel]
@[simp] theorem markLevel_trace (s : State) : (markLevel s).trace = s.trace := by simp [markLevel]
@[simp] theorem markLevel_req (s : State) : (markLevel s).req = s.req := by simp [markLevel]
@[simp] theorem markLevel_stepIdx (s : State) : (markLevel s).stepIdx = s.stepIdx := by simp [markLevel]
@[simp] theorem markLevel_elem (s : State) : (markLevel s).elem = s.elem := by simp [markLevel]
@[simp] theorem markLevel_port (s : State) : (markLevel s).port = s.port := by simp [markLevel]
@[simp] theorem markLevel_input (s : State) : (markLevel s).input = s.input := by simp [markLevel]
@[simp] theorem markLevel_readData (s : State) : (markLevel s).readData = s.readData := by simp [markLevel]
@[simp] theorem markLevel_mem (s : State) : (markLevel s).mem = s.mem := by simp [markLevel]
@[simp] theorem markLevel_accepts (s : State) : (markLevel s).accepts = s.accepts := by simp [markLevel]

@[simp] theorem drawingCheck_cfg (s : State) : (drawingCheck s).cfg = s.cfg := by simp [drawingCheck]
@[simp] theorem drawingCheck_width (s : State) : (drawingCheck s).width = s.width := by simp [drawingCheck]
@[simp] theorem drawingCheck_height (s : State) : (drawingCheck s).height = s.height := by simp [drawingCheck]
@[simp] theorem drawingCheck_rotation (s : State) : (drawingCheck s).rotation = s.rotation := by simp [drawingCheck]
@[simp] theorem drawingCheck_cursorX (s : State) : (drawingCheck s).cursorX = s.cursorX := by simp [drawingCheck]
@[simp] theorem drawingCheck_cursorY (s : State) : (drawingCheck s).cursorY = s.cursorY := by simp [drawingCheck]
@[simp] theorem drawingCheck_initDone (s : State) : (drawingCheck s).initDone = s.initDone := by simp [drawingCheck]
@[simp] theorem drawingCheck_dcCfg (s : State) : (drawingCheck s).dcCfg = s.dcCfg := by simp [drawingCheck]
@[simp] theorem drawingCheck_dc (s : State) : (drawingCheck s).dc = s.dc := by simp [drawingCheck]
@[simp] theorem drawingCheck_proto (s : State) : (drawingCheck s).proto = s.proto := by simp [drawingCheck]
@[simp] theorem drawingCheck_winSc (s : State) : (drawingCheck s).winSc = s.winSc := by simp [drawingCheck]
@[simp] theorem drawingCheck_winEc (s : State) : (drawingCheck s).winEc = s.winEc := by simp [drawingCheck]
@[simp] theorem drawingCheck_winSp (s : State) : (drawingCheck s).winSp = s.winSp := by simp [drawingCheck]
@[simp] theorem drawingCheck_winEp (s : State) : (drawingCheck s).winEp = s.winEp := by simp [drawingCheck]
@[simp] theorem drawingCheck_fault (s : State) : (drawingCheck s).fault = s.fault := by simp [drawingCheck]
@[simp] theorem drawingCheck_refused (s : State) : (drawingCheck s).refused = s.refused := by simp [drawingCheck]
@[simp] theorem drawingCheck_trace (s : State) : (drawingCheck s).trace = s.trace := by simp [drawingCheck]
@[simp] theorem drawingCheck_req (s : State) : (drawingCheck s).req = s.req := by simp [drawingCheck]
@[simp] theorem drawingCheck_stepIdx (s : State) : (drawingCheck s).stepIdx = s.stepIdx := by simp [drawingCheck]
@[simp] theorem drawingCheck_elem (s : State) : (drawingCheck s).elem = s.elem := by simp [drawingCheck]
@[simp] theorem drawingCheck_port (s : State) : (drawingCheck s).port = s.port := by simp [drawingCheck]
@[simp] theorem drawingCheck_input (s : State) : (drawingCheck s).input = s.input := by simp [drawingCheck]
@[simp] theorem drawingCheck_readData (s : State) : (drawingCheck s).readData = s.readData := by simp [drawingCheck]
@[simp] theorem drawingCheck_mem (s : State) : (drawingCheck s).mem = s.mem := by simp [drawingCheck]
@[simp] theorem drawingCheck_accepts (s : State) : (drawingCheck s).accepts = s.accepts := by simp [drawingCheck]

@[simp] theorem streamCheck_cfg (n : Nat) (s : State) : (streamCheck n s).cfg = s.cfg := by simp [streamCheck]
@[simp] theorem streamCheck_width (n : Nat) (s : State) : (streamCheck n s).width = s.width := by simp [streamCheck]
@[simp] theorem streamCheck_height (n : Nat) (s : State) : (streamCheck n s).height = s.height := by simp [streamCheck]
@[simp] theorem streamCheck_rotation (n : Nat) (s : State) : (streamCheck n s).rotation = s.rotation := by simp [streamCheck]
@[simp] theorem streamCheck_cursorX (n : Nat) (s : State) : (streamCheck n s).cursorX = s.cursorX := by simp [streamCheck]
@[simp] theorem streamCheck_cursorY (n : Nat) (s : State) : (streamCheck n s).cursorY = s.cursorY := by simp [streamCheck]
@[simp] theorem streamCheck_initDone (n : Nat) (s : State) : (streamCheck n s).initDone = s.initDone := by simp [streamCheck]
@[simp] theorem streamCheck_dcCfg (n : Nat) (s : State) : (streamCheck n s).dcCfg = s.dcCfg := by simp [streamCheck]
@[simp] theorem streamCheck_dc (n : Nat) (s : State) : (streamCheck n s).dc = s.dc := by simp [streamCheck]
@[simp] theorem streamCheck_proto (n : Nat) (s : State) : (streamCheck n s).proto = s.proto := by simp [streamCheck]
@[simp] theorem streamCheck_winSc (n : Nat) (s : State) : (streamCheck n s).winSc = s.winSc := by simp [streamCheck]
@[simp] theorem streamCheck_winEc (n : Nat) (s : State) : (streamCheck n s).winEc = s.winEc := by simp [streamCheck]
@[simp] theorem streamCheck_winSp (n : Nat) (s : State) : (streamCheck n s).winSp = s.winSp := by simp [streamCheck]
@[simp] theorem streamCheck_winEp (n : Nat) (s : State) : (streamCheck n s).winEp = s.winEp := by simp [streamCheck]
@[simp] theorem streamCheck_fault (n : Nat) (s : State) : (streamCheck n s).fault = s.fault := by simp [streamCheck]
@[simp] theorem streamCheck_refused (n : Nat) (s : State) : (streamCheck n s).refused = s.refused := by simp [streamCheck]
@[simp] theorem streamCheck_trace (n : Nat) (s : State) : (streamCheck n s).trace = s.trace := by simp [streamCheck]
@[simp] theorem streamCheck_req (n : Nat) (s : State) : (streamCheck n s).req = s.req := by simp [streamCheck]
@[simp] theorem streamCheck_stepIdx (n : Nat) (s : State) : (streamCheck n s).stepIdx = s.stepIdx := by simp [streamCheck]
@[simp] theorem streamCheck_elem (n : Nat) (s : State) : (streamCheck n s).elem = s.elem := by simp [streamCheck]
@[simp] theorem streamCheck_port (n : Nat) (s : State) : (streamCheck n s).port = s.port := by simp [streamCheck]
@[simp] theorem streamCheck_input (n : Nat) (s : State) : (streamCheck n s).input = s.input := by simp [streamCheck]
@[simp] theorem streamCheck_readData (n : Nat) (s : State) : (streamCheck n s).readData = s.readData := by simp [streamCheck]
@[simp] theorem streamCheck_mem (n : Nat) (s : State) : (streamCheck n s).mem = s.mem := by simp [streamCheck]
@[simp] theorem streamCheck_accepts (n : Nat) (s : State) : (streamCheck n s).accepts = s.accepts := by simp [streamCheck]
/-- The level of a byte sent right after `DriveDc(v)` (R96 law 1). -/
theorem effLevel_driveDc (v : DcLevel) (s : State) :
    effLevel (driveDc v s) = if s.dcCfg then v else .undef := by
  unfold effLevel; rw [driveDc_dcCfg, driveDc_dc]; split <;> rfl

/-- What `EffLevel()` marks (R86). -/
theorem has_markLevel (s : State) (w : Violation) :
    (markLevel s).viol.has w =
      ((decide (effLevel s = .undef) && decide (.dcIndeterminate = w)) ||
        ((!s.dcCfg && decide (.dcUnconfigured = w)) || s.viol.has w)) := by
  unfold markLevel; rw [State.has_markIf, State.has_markIf]

/-- A configured pin at a driven level is no hazard (R86). -/
theorem markLevel_of_driven {s : State} (h : s.dcCfg = true) (hl : s.dc ≠ .undef) : markLevel s = s := by
  simp [markLevel, State.markIf, effLevel, h, hl]

end Sys2Proof.Machine
end

