-- ==== Sys2Proof/Laws/Memory.lean ====
section
/-! SUPPORT. Host memory: the canonical form is kept by every operation, a byte placed is the byte read, and every other
byte is left alone. -/

namespace Sys2Proof.Machine

theorem memoryWf_iff (m : Memory) :
    memoryWf m = true ↔ (m.Pairwise fun a b => a.1 < b.1) ∧ ∀ c ∈ m, c.1 < 2 ^ 32 := by
  simp [memoryWf]

@[simp] theorem memoryWf_nil : memoryWf [] = true := rfl

/-- The addresses after a write are those before it and the one written. -/
theorem mem_writeByte {m : Memory} {a : Nat} {b : Byte} {c : Host.Cell} (h : c ∈ writeByte m a b) :
    c = (a, b) ∨ c ∈ m := by
  induction m with
  | nil => simpa [writeByte] using h
  | cons p rest ih =>
    obtain ⟨k, v⟩ := p
    unfold writeByte at h
    split at h
    · simpa using h
    · split at h
      · rcases List.mem_cons.1 h with h | h <;> simp [h]
      · rcases List.mem_cons.1 h with h | h
        · simp [h]
        · rcases ih h with h | h <;> simp [h]

/-- Placing a byte keeps the addresses strictly rising. -/
theorem writeByte_pairwise {m : Memory} (a : Nat) (b : Byte) (h : m.Pairwise fun x y => x.1 < y.1) :
    (writeByte m a b).Pairwise fun x y => x.1 < y.1 := by
  induction m with
  | nil => simp [writeByte]
  | cons p rest ih =>
    obtain ⟨k, v⟩ := p
    rw [List.pairwise_cons] at h
    unfold writeByte
    split
    · rename_i hlt
      refine List.pairwise_cons.2 ⟨fun y hy => ?_, List.pairwise_cons.2 h⟩
      rcases List.mem_cons.1 hy with rfl | hy
      · exact hlt
      · exact lt_trans hlt (h.1 y hy)
    · split
      · rename_i hne heq
        exact List.pairwise_cons.2 ⟨fun y hy => heq ▸ h.1 y hy, h.2⟩
      · rename_i hlt hne
        refine List.pairwise_cons.2 ⟨fun y hy => ?_, ih h.2⟩
        rcases mem_writeByte hy with rfl | hy
        · simp only; omega
        · exact h.1 y hy

/-- Placing a byte at a 32-bit address keeps the canonical form. -/
theorem writeByte_wf {m : Memory} {a : Nat} (b : Byte) (ha : a < 2 ^ 32) (h : memoryWf m = true) :
    memoryWf (writeByte m a b) = true := by
  rw [memoryWf_iff] at h ⊢
  refine ⟨writeByte_pairwise a b h.1, fun c hc => ?_⟩
  rcases mem_writeByte hc with rfl | hc
  · exact ha
  · exact h.2 c hc

/-- A byte is not listed below the first address of a rising list. -/
theorem readByte_none_of_below {m : Memory} {a : Nat} (h : ∀ c ∈ m, a < c.1) : readByte m a = none := by
  induction m with
  | nil => rfl
  | cons p rest ih =>
    obtain ⟨k, v⟩ := p
    have hk : a < k := h (k, v) (by simp)
    simp only [readByte]
    rw [if_neg (by omega)]
    exact ih fun c hc => h c (by simp [hc])

/-- Read after write, at the address written. -/
@[simp] theorem readByte_writeByte_same (m : Memory) (a : Nat) (b : Byte) :
    readByte (writeByte m a b) a = some b := by
  induction m with
  | nil => simp [writeByte, readByte]
  | cons p rest ih =>
    obtain ⟨k, v⟩ := p
    unfold writeByte
    split
    · simp [readByte]
    · split
      · simp [readByte]
      · rename_i hne
        simp only [readByte]
        rw [if_neg (fun h => hne h.symm)]
        exact ih

/-- Read after write, at every other address. -/
theorem readByte_writeByte_other {m : Memory} {a c : Nat} (b : Byte) (h : c ≠ a) :
    readByte (writeByte m a b) c = readByte m c := by
  induction m with
  | nil => simp [writeByte, readByte, Ne.symm h]
  | cons p rest ih =>
    obtain ⟨k, v⟩ := p
    unfold writeByte
    split
    · simp [readByte, Ne.symm h]
    · split
      · rename_i heq
        subst heq
        simp [readByte, Ne.symm h]
      · simp only [readByte, ih]

/-- The host's move keeps the canonical form. -/
theorem placeByte_wf (a : Word) (b : Byte) {s : State} (h : memoryWf s.mem = true) :
    memoryWf (placeByte a b s).mem = true := writeByte_wf b a.isLt h

end Sys2Proof.Machine
end

