-- ==== Sys2Proof/Laws/Tracker.lean ====
section
/-! SUPPORT. The tracker writes `proto`, the window shadow and the marks, and nothing else; and it never takes a mark
away. -/

namespace Sys2Proof.Machine

/-- What the tracker may have written. -/
abbrev Shaped (s t : State) : Prop :=
  ∃ p sc ec sp ep v, t = { s with proto := p, winSc := sc, winEc := ec, winSp := sp, winEp := ep, viol := v }

theorem Shaped.refl (s : State) : Shaped s s := ⟨_, _, _, _, _, _, rfl⟩

theorem Shaped.trans {s t u : State} (h : Shaped s t) (g : Shaped t u) : Shaped s u := by
  obtain ⟨_, _, _, _, _, _, rfl⟩ := h
  obtain ⟨p, sc, ec, sp, ep, v, rfl⟩ := g
  exact ⟨p, sc, ec, sp, ep, v, rfl⟩

theorem mark_shape (s : State) (v : Violation) : Shaped s (s.mark v) := ⟨_, _, _, _, _, _, rfl⟩

theorem markIf_shape (s : State) (p : Bool) (v : Violation) : Shaped s (s.markIf p v) := by
  unfold State.markIf; split
  · exact mark_shape s v
  · exact .refl s

theorem forgetRange_shape (op : Byte) (s : State) : Shaped s (forgetRange op s) := by
  unfold forgetRange; split <;> exact ⟨_, _, _, _, _, _, rfl⟩

theorem closeContext_shape (s : State) : Shaped s (closeContext s) := by
  unfold closeContext
  split
  · exact .refl s
  · split
    · exact (mark_shape s _).trans (forgetRange_shape _ _)
    · exact .refl s
  · exact .refl s
  · exact markIf_shape s _ _

theorem openContext_shape (b : Byte) (s : State) : Shaped s (openContext b s) := by
  unfold openContext
  split
  · exact (markIf_shape s _ _).trans ⟨_, _, _, _, _, _, rfl⟩
  · split <;> exact ⟨_, _, _, _, _, _, rfl⟩

theorem latchRange_shape (op : Byte) (acc : List Byte) (s : State) : Shaped s (latchRange op acc s) := by
  unfold latchRange
  split
  · unfold setRange; split <;> exact ⟨_, _, _, _, _, _, rfl⟩
  · exact .refl s

theorem trackData_shape (b : Byte) (s : State) : Shaped s (trackData b s) := by
  unfold trackData
  split
  · exact mark_shape s _
  · split
    · unfold captureParam
      split
      · exact Shaped.trans ⟨_, _, _, _, _, _, rfl⟩ (latchRange_shape _ _ _)
      · exact mark_shape s _
    · exact .refl s
  · exact .refl s
  · exact mark_shape s _
  · exact ⟨_, _, _, _, _, _, rfl⟩

/-- R105: "It only updates `proto` and `win_*` ... and adds violation marks". -/
theorem track_shape (lvl : DcLevel) (b : Byte) (s : State) : Shaped s (track lvl b s) := by
  cases lvl
  · exact (closeContext_shape s).trans (openContext_shape b _)
  · exact trackData_shape b s
  · exact ⟨_, _, _, _, _, _, rfl⟩

@[simp] theorem track_cfg (lvl : DcLevel) (b : Byte) (s : State) : (track lvl b s).cfg = s.cfg := by
  obtain ⟨p, sc, ec, sp, ep, v, h⟩ := track_shape lvl b s; rw [h]
@[simp] theorem track_width (lvl : DcLevel) (b : Byte) (s : State) : (track lvl b s).width = s.width := by
  obtain ⟨p, sc, ec, sp, ep, v, h⟩ := track_shape lvl b s; rw [h]
@[simp] theorem track_height (lvl : DcLevel) (b : Byte) (s : State) : (track lvl b s).height = s.height := by
  obtain ⟨p, sc, ec, sp, ep, v, h⟩ := track_shape lvl b s; rw [h]
@[simp] theorem track_rotation (lvl : DcLevel) (b : Byte) (s : State) : (track lvl b s).rotation = s.rotation := by
  obtain ⟨p, sc, ec, sp, ep, v, h⟩ := track_shape lvl b s; rw [h]
@[simp] theorem track_cursorX (lvl : DcLevel) (b : Byte) (s : State) : (track lvl b s).cursorX = s.cursorX := by
  obtain ⟨p, sc, ec, sp, ep, v, h⟩ := track_shape lvl b s; rw [h]
@[simp] theorem track_cursorY (lvl : DcLevel) (b : Byte) (s : State) : (track lvl b s).cursorY = s.cursorY := by
  obtain ⟨p, sc, ec, sp, ep, v, h⟩ := track_shape lvl b s; rw [h]
@[simp] theorem track_initDone (lvl : DcLevel) (b : Byte) (s : State) : (track lvl b s).initDone = s.initDone := by
  obtain ⟨p, sc, ec, sp, ep, v, h⟩ := track_shape lvl b s; rw [h]
@[simp] theorem track_dcCfg (lvl : DcLevel) (b : Byte) (s : State) : (track lvl b s).dcCfg = s.dcCfg := by
  obtain ⟨p, sc, ec, sp, ep, v, h⟩ := track_shape lvl b s; rw [h]
@[simp] theorem track_dc (lvl : DcLevel) (b : Byte) (s : State) : (track lvl b s).dc = s.dc := by
  obtain ⟨p, sc, ec, sp, ep, v, h⟩ := track_shape lvl b s; rw [h]
@[simp] theorem track_fault (lvl : DcLevel) (b : Byte) (s : State) : (track lvl b s).fault = s.fault := by
  obtain ⟨p, sc, ec, sp, ep, v, h⟩ := track_shape lvl b s; rw [h]
@[simp] theorem track_refused (lvl : DcLevel) (b : Byte) (s : State) : (track lvl b s).refused = s.refused := by
  obtain ⟨p, sc, ec, sp, ep, v, h⟩ := track_shape lvl b s; rw [h]
@[simp] theorem track_trace (lvl : DcLevel) (b : Byte) (s : State) : (track lvl b s).trace = s.trace := by
  obtain ⟨p, sc, ec, sp, ep, v, h⟩ := track_shape lvl b s; rw [h]
@[simp] theorem track_req (lvl : DcLevel) (b : Byte) (s : State) : (track lvl b s).req = s.req := by
  obtain ⟨p, sc, ec, sp, ep, v, h⟩ := track_shape lvl b s; rw [h]
@[simp] theorem track_stepIdx (lvl : DcLevel) (b : Byte) (s : State) : (track lvl b s).stepIdx = s.stepIdx := by
  obtain ⟨p, sc, ec, sp, ep, v, h⟩ := track_shape lvl b s; rw [h]
@[simp] theorem track_elem (lvl : DcLevel) (b : Byte) (s : State) : (track lvl b s).elem = s.elem := by
  obtain ⟨p, sc, ec, sp, ep, v, h⟩ := track_shape lvl b s; rw [h]
@[simp] theorem track_port (lvl : DcLevel) (b : Byte) (s : State) : (track lvl b s).port = s.port := by
  obtain ⟨p, sc, ec, sp, ep, v, h⟩ := track_shape lvl b s; rw [h]
@[simp] theorem track_input (lvl : DcLevel) (b : Byte) (s : State) : (track lvl b s).input = s.input := by
  obtain ⟨p, sc, ec, sp, ep, v, h⟩ := track_shape lvl b s; rw [h]
@[simp] theorem track_readData (lvl : DcLevel) (b : Byte) (s : State) : (track lvl b s).readData = s.readData := by
  obtain ⟨p, sc, ec, sp, ep, v, h⟩ := track_shape lvl b s; rw [h]
@[simp] theorem track_mem (lvl : DcLevel) (b : Byte) (s : State) : (track lvl b s).mem = s.mem := by
  obtain ⟨p, sc, ec, sp, ep, v, h⟩ := track_shape lvl b s; rw [h]
@[simp] theorem track_accepts (lvl : DcLevel) (b : Byte) (s : State) : (track lvl b s).accepts = s.accepts := by
  obtain ⟨p, sc, ec, sp, ep, v, h⟩ := track_shape lvl b s; rw [h]

/-! ### Marks only grow (R33) -/

theorem mark_keeps {s : State} (v : Violation) {w : Violation} (h : s.viol.has w = true) :
    (s.mark v).viol.has w = true := by simp [h]

theorem markIf_keeps {s : State} (p : Bool) (v : Violation) {w : Violation} (h : s.viol.has w = true) :
    (s.markIf p v).viol.has w = true := by rw [State.has_markIf, h, Bool.or_true]

theorem forgetRange_viol (op : Byte) (s : State) : (forgetRange op s).viol = s.viol := by
  unfold forgetRange; split <;> rfl

theorem closeContext_keeps {s : State} {w : Violation} (h : s.viol.has w = true) :
    (closeContext s).viol.has w = true := by
  unfold closeContext
  split
  · exact h
  · split
    · rw [forgetRange_viol]; exact mark_keeps _ h
    · exact h
  · exact h
  · exact markIf_keeps _ _ h

theorem openContext_keeps (b : Byte) {s : State} {w : Violation} (h : s.viol.has w = true) :
    (openContext b s).viol.has w = true := by
  unfold openContext
  split
  · exact markIf_keeps _ _ h
  · split <;> exact h

theorem latchRange_viol (op : Byte) (acc : List Byte) (s : State) : (latchRange op acc s).viol = s.viol := by
  unfold latchRange
  split
  · unfold setRange; split <;> rfl
  · rfl

theorem trackData_keeps (b : Byte) {s : State} {w : Violation} (h : s.viol.has w = true) :
    (trackData b s).viol.has w = true := by
  unfold trackData
  split
  · exact mark_keeps _ h
  · split
    · unfold captureParam
      split
      · rw [latchRange_viol]; exact h
      · exact mark_keeps _ h
    · exact h
  · exact h
  · exact mark_keeps _ h
  · exact h

/-- The tracker never takes a mark away. -/
theorem track_keeps (lvl : DcLevel) (b : Byte) {s : State} {w : Violation} (h : s.viol.has w = true) :
    (track lvl b s).viol.has w = true := by
  cases lvl
  · exact openContext_keeps b (closeContext_keeps h)
  · exact trackData_keeps b h
  · exact h

end Sys2Proof.Machine
end

