-- ==== Sys2Proof/Laws/Ops.lean ====
section
/-! SUPPORT. What sending a byte and running a sequence can do, said once: `opDone` is the state an operation ends in when
nothing stalls, `opWait` the state it waits in when something does, and every run is a fold of `opDone`. -/

namespace Sys2Proof.Machine

/-! ### The handshake and one byte (R84) -/

/-- The transport has taken one byte. -/
def takeByte (s : State) : State := { s with accepts := s.accepts.map (· - 1) }

/-- The state after one byte is accepted at level `lvl`: trace, tracker and position move in one step (R84). -/
def sentByte (lvl : DcLevel) (b : Byte) (s : State) : State :=
  (track lvl b (record (.byte lvl b) (takeByte s))).advance

theorem handshake_eq (s : State) : handshake s = if s.accepts = some 0 then none else some (takeByte s) := by
  obtain ⟨⟩ := s
  rename_i a
  cases a with
  | none => rfl
  | some n => cases n <;> simp [handshake, takeByte]

/-- Everything `Emit` can do. -/
theorem emit_eq (lvl : DcLevel) (b : Byte) (s : State) :
    emit lvl b s = if s.accepts = some 0 then .stuck .transportStalled s else .done (sentByte lvl b s) := by
  unfold emit; rw [handshake_eq]; split <;> simp_all [sentByte]

theorem accepts_ne_zero {s : State} {n : Nat} (h : Accepts (n + 1) s) : s.accepts ≠ some 0 :=
  fun h0 => absurd (h 0 h0) (by omega)

/-! ### One operation -/

/-- Whether an operation needs the transport. -/
def Op.isByte : Op → Bool
  | .command _ => true
  | .data _ => true
  | .raw _ => true
  | .elemFirst _ => true
  | .elemSecond _ => true
  | _ => false

/-- The buffer element an operation needs is at hand or admitted by host memory. -/
def elemReady (o : Op) (s : State) : Bool :=
  match o with
  | .elemFirst a => (elementAt a s).isSome
  | .elemSecond a => (elementAt a s).isSome
  | _ => true

/-- The state in which an operation waits for its handshake: the DC line is driven, the hazards are marked, the element
is read (R17, R60). -/
def opWait (o : Op) (s : State) : State :=
  match o with
  | .command _ => markLevel (driveDc .low s)
  | .data _ => markLevel (driveDc .high s)
  | .raw _ => markLevel s
  | .elemFirst a =>
    match elementAt a s with
    | some v => markLevel (driveDc .high { s with elem := some v })
    | none => s
  | .elemSecond a =>
    match elementAt a s with
    | some v => markLevel (driveDc .high { s with elem := some v })
    | none => s
  | _ => s

/-- The byte an operation sends, if it sends one. -/
def opByte (o : Op) (s : State) : Byte :=
  match o with
  | .command b => b
  | .data b => b
  | .raw b => b
  | .elemFirst a =>
    match elementAt a s with
    | some v => firstWireByte s.cfg.pushPixelOrder v
    | none => 0
  | .elemSecond a =>
    match elementAt a s with
    | some v => secondWireByte s.cfg.pushPixelOrder v
    | none => 0
  | _ => 0

/-- The state an operation ends in. -/
def opDone (o : Op) (s : State) : State :=
  match o with
  | .configureDc => configureDc s
  | .driveDc v => driveDc v s
  | .setCursor x y => setCursor x y s
  | .drawingCheck => drawingCheck s
  | .streamCheck n => streamCheck n s
  | .command b => releaseDc (sentByte (effLevel (driveDc .low s)) b (markLevel (driveDc .low s)))
  | .data b => sentByte (effLevel (driveDc .high s)) b (markLevel (driveDc .high s))
  | .raw b => sentByte (effLevel s) b (markLevel s)
  | .elemFirst a => sentByte (effLevel (driveDc .high s)) (opByte (.elemFirst a) s) (opWait (.elemFirst a) s)
  | .elemSecond a =>
    { sentByte (effLevel (driveDc .high s)) (opByte (.elemSecond a) s) (opWait (.elemSecond a) s) with elem := none }
  | .wait k => waitEvent k s
  | .setInitDone => { s with initDone := true }
  | .setGeometry m => setGeometry m s

theorem sendRaw_eq (b : Byte) (s : State) :
    sendRaw b s =
      if s.accepts = some 0 then .stuck .transportStalled (markLevel s)
      else .done (sentByte (effLevel s) b (markLevel s)) := by
  unfold sendRaw; rw [emit_eq]; simp

theorem sendData_eq (b : Byte) (s : State) :
    sendData b s =
      if s.accepts = some 0 then .stuck .transportStalled (markLevel (driveDc .high s))
      else .done (sentByte (effLevel (driveDc .high s)) b (markLevel (driveDc .high s))) := by
  unfold sendData; rw [sendRaw_eq]; simp

theorem sendCommand_eq (b : Byte) (s : State) :
    sendCommand b s =
      if s.accepts = some 0 then .stuck .transportStalled (markLevel (driveDc .low s))
      else .done (releaseDc (sentByte (effLevel (driveDc .low s)) b (markLevel (driveDc .low s)))) := by
  unfold sendCommand; rw [sendRaw_eq]
  simp only [driveDc_accepts]
  split <;> rfl

theorem effLevel_elem (s : State) (v : Option Half) (l : DcLevel) :
    effLevel (driveDc l { s with elem := v }) = effLevel (driveDc l s) := by
  rw [effLevel_driveDc, effLevel_driveDc]

/-- Everything one operation can do. -/
theorem runOp_eq (o : Op) (s : State) :
    runOp o s =
      if elemReady o s = false then .stuck .memoryNotAdmitted s
      else if o.isByte = true ∧ s.accepts = some 0 then .stuck .transportStalled (opWait o s)
      else .done (opDone o s) := by
  cases o <;>
    simp only [runOp, elemReady, Op.isByte, opWait, opDone, sendRaw_eq, sendData_eq, sendCommand_eq, sendElemFirst,
      sendElemSecond, opByte, Bool.true_eq_false, Bool.false_eq_true, false_and, true_and, if_false]
  · cases h : elementAt _ s <;> simp [effLevel_elem]
  · cases h : elementAt _ s <;> simp [effLevel_elem]
    split <;> simp [Progress.andThen]

theorem runOp_done {o : Op} {s t : State} (h : runOp o s = .done t) : t = opDone o s := by
  rw [runOp_eq] at h
  split at h
  · cases h
  · split at h <;> cases h; rfl

theorem Op.isEvent_of_isByte {o : Op} (h : o.isByte = true) : o.isEvent = true := by
  cases o <;> simp_all [Op.isByte, Op.isEvent]

theorem isByte_of_not_elemReady {o : Op} {s : State} (h : elemReady o s = false) : o.isByte = true := by
  cases o <;> simp_all [elemReady, Op.isByte]

/-- An operation that is stuck is a byte event, and waits in `opWait`. -/
theorem runOp_stuck {o : Op} {s t : State} {why : Fault} (h : runOp o s = .stuck why t) :
    o.isByte = true ∧ t = opWait o s ∧
      (why = .memoryNotAdmitted ∧ elemReady o s = false ∨
        why = .transportStalled ∧ elemReady o s = true ∧ s.accepts = some 0) := by
  rw [runOp_eq] at h
  split at h
  · rename_i hr
    cases h
    refine ⟨isByte_of_not_elemReady hr, ?_, .inl ⟨rfl, hr⟩⟩
    cases o <;> simp_all [elemReady, opWait]
  · rename_i hr
    split at h
    · rename_i hb
      cases h
      exact ⟨hb.1, rfl, .inr ⟨rfl, by simpa using hr, hb.2⟩⟩
    · cases h

/-! ### What no operation changes -/

/-- The fields no operation of a sequence writes (R21, R40). -/
structure SameBase (s t : State) : Prop where
  cfg : t.cfg = s.cfg
  fault : t.fault = s.fault
  refused : t.refused = s.refused
  req : t.req = s.req
  port : t.port = s.port
  input : t.input = s.input
  readData : t.readData = s.readData
  mem : t.mem = s.mem

theorem SameBase.refl (s : State) : SameBase s s := ⟨rfl, rfl, rfl, rfl, rfl, rfl, rfl, rfl⟩

theorem SameBase.trans {s t u : State} (h : SameBase s t) (g : SameBase t u) : SameBase s u :=
  ⟨g.1.trans h.1, g.2.trans h.2, g.3.trans h.3, g.4.trans h.4, g.5.trans h.5, g.6.trans h.6, g.7.trans h.7,
    g.8.trans h.8⟩

/-- The panel state, which only `setInitDone`, `setGeometry` and `setCursor` write (R25, R27, R122), and the pin's
configuration, which only `configureDc` writes (R28). -/
structure SamePanel (s t : State) : Prop where
  width : t.width = s.width
  height : t.height = s.height
  rotation : t.rotation = s.rotation
  cursorX : t.cursorX = s.cursorX
  cursorY : t.cursorY = s.cursorY
  initDone : t.initDone = s.initDone
  dcCfg : t.dcCfg = s.dcCfg

theorem SamePanel.refl (s : State) : SamePanel s s := ⟨rfl, rfl, rfl, rfl, rfl, rfl, rfl⟩

theorem SamePanel.trans {s t u : State} (h : SamePanel s t) (g : SamePanel t u) : SamePanel s u :=
  ⟨g.1.trans h.1, g.2.trans h.2, g.3.trans h.3, g.4.trans h.4, g.5.trans h.5, g.6.trans h.6, g.7.trans h.7⟩

theorem sentByte_base (lvl : DcLevel) (b : Byte) (s : State) : SameBase s (sentByte lvl b s) := by
  constructor <;> simp [sentByte, takeByte]

theorem sentByte_panel (lvl : DcLevel) (b : Byte) (s : State) : SamePanel s (sentByte lvl b s) := by
  constructor <;> simp [sentByte, takeByte]

theorem opWait_base (o : Op) (s : State) : SameBase s (opWait o s) := by
  cases o with
  | elemFirst a => simp only [opWait]; split <;> constructor <;> simp
  | elemSecond a => simp only [opWait]; split <;> constructor <;> simp
  | _ => constructor <;> simp [opWait]

theorem opWait_panel (o : Op) (s : State) : SamePanel s (opWait o s) := by
  cases o with
  | elemFirst a => simp only [opWait]; split <;> constructor <;> simp
  | elemSecond a => simp only [opWait]; split <;> constructor <;> simp
  | _ => constructor <;> simp [opWait]

theorem opDone_base (o : Op) (s : State) : SameBase s (opDone o s) := by
  cases o with
  | elemFirst a => exact (opWait_base (.elemFirst a) s).trans (sentByte_base _ _ _)
  | elemSecond a =>
    exact ((opWait_base (.elemSecond a) s).trans (sentByte_base _ _ _)).trans ⟨rfl, rfl, rfl, rfl, rfl, rfl, rfl, rfl⟩
  | _ => constructor <;> simp [opDone, sentByte, takeByte, waitEvent]

/-- A byte or wait event leaves the panel state alone. -/
theorem opDone_panel {o : Op} (h : o.isEvent = true) (s : State) : SamePanel s (opDone o s) := by
  cases o with
  | elemFirst a => exact (opWait_panel (.elemFirst a) s).trans (sentByte_panel _ _ _)
  | elemSecond a =>
    exact ((opWait_panel (.elemSecond a) s).trans (sentByte_panel _ _ _)).trans ⟨rfl, rfl, rfl, rfl, rfl, rfl, rfl⟩
  | _ => first | (simp [Op.isEvent] at h; done) | (constructor <;> simp [opDone, sentByte, takeByte, waitEvent])

/-- An event moves the position by one; any other operation leaves it. -/
theorem opDone_stepIdx (o : Op) (s : State) :
    (opDone o s).stepIdx = s.stepIdx + if o.isEvent then 1 else 0 := by
  cases o with
  | elemFirst a => simp only [opDone, opWait]; split <;> simp [sentByte, takeByte, Op.isEvent]
  | elemSecond a => simp only [opDone, opWait]; split <;> simp [sentByte, takeByte, Op.isEvent]
  | _ => simp [opDone, sentByte, takeByte, waitEvent, Op.isEvent]

theorem opWait_stepIdx (o : Op) (s : State) : (opWait o s).stepIdx = s.stepIdx := by
  cases o with
  | elemFirst a => simp only [opWait]; split <;> simp
  | elemSecond a => simp only [opWait]; split <;> simp
  | _ => simp [opWait]

/-- The trace is append-only (R36). -/
theorem opDone_trace (o : Op) (s : State) : ∃ evs, (opDone o s).trace = s.trace ++ evs := by
  cases o with
  | elemFirst a => simp only [opDone, opWait]; split <;> exact ⟨_, by simp [sentByte, takeByte]; rfl⟩
  | elemSecond a => simp only [opDone, opWait]; split <;> exact ⟨_, by simp [sentByte, takeByte]; rfl⟩
  | command b => exact ⟨_, by simp [opDone, sentByte, takeByte]; rfl⟩
  | data b => exact ⟨_, by simp [opDone, sentByte, takeByte]; rfl⟩
  | raw b => exact ⟨_, by simp [opDone, sentByte, takeByte]; rfl⟩
  | wait k => exact ⟨_, by simp [opDone, waitEvent]; rfl⟩
  | _ => exact ⟨[], by simp [opDone]⟩

theorem opWait_trace (o : Op) (s : State) : (opWait o s).trace = s.trace := by
  cases o with
  | elemFirst a => simp only [opWait]; split <;> simp
  | elemSecond a => simp only [opWait]; split <;> simp
  | _ => simp [opWait]

/-! ### Sequences -/

/-- The state a sequence ends in when nothing stalls. -/
def opsDone (ops : List Op) (s : State) : State := ops.foldl (fun t o => opDone o t) s

@[simp] theorem opsDone_nil (s : State) : opsDone [] s = s := rfl

@[simp] theorem opsDone_cons (o : Op) (ops : List Op) (s : State) : opsDone (o :: ops) s = opsDone ops (opDone o s) := rfl

theorem opsDone_append (a b : List Op) (s : State) : opsDone (a ++ b) s = opsDone b (opsDone a s) := by
  simp [opsDone]

/-- A run that is done is the fold of its operations. -/
theorem runOps_done {ops : List Op} {s t : State} (h : runOps ops s = .done t) : t = opsDone ops s := by
  induction ops generalizing s with
  | nil => cases h; rfl
  | cons o rest ih =>
    simp only [runOps] at h
    split at h
    · rename_i u hu
      rw [opsDone_cons, ← runOp_done hu]
      exact ih h
    · cases h

/-- A run that is stuck has done some operations and waits in the next. -/
theorem runOps_stuck {ops : List Op} {s t : State} {why : Fault} (h : runOps ops s = .stuck why t) :
    ∃ pre o post, ops = pre ++ o :: post ∧ runOps pre s = .done (opsDone pre s) ∧
      runOp o (opsDone pre s) = .stuck why t := by
  induction ops generalizing s with
  | nil => cases h
  | cons o rest ih =>
    simp only [runOps] at h
    split at h
    · rename_i u hu
      obtain ⟨pre, o', post, rfl, hp, ho⟩ := ih h
      have hd := runOp_done hu
      subst hd
      exact ⟨o :: pre, o', post, rfl, by simp only [runOps, hu]; exact hp, ho⟩
    · rename_i w u hu
      cases h
      exact ⟨[], o, rest, rfl, rfl, hu⟩

theorem runOps_append (a b : List Op) (s : State) :
    runOps (a ++ b) s =
      match runOps a s with
      | .done t => runOps b t
      | .stuck why t => .stuck why t := by
  induction a generalizing s with
  | nil => rfl
  | cons o rest ih =>
    simp only [List.cons_append, runOps]
    cases runOp o s with
    | done u => exact ih u
    | stuck why u => rfl

theorem opsDone_base (ops : List Op) (s : State) : SameBase s (opsDone ops s) := by
  induction ops generalizing s with
  | nil => exact .refl s
  | cons o rest ih => exact (opDone_base o s).trans (ih _)

theorem opsDone_trace (ops : List Op) (s : State) : ∃ evs, (opsDone ops s).trace = s.trace ++ evs := by
  induction ops generalizing s with
  | nil => exact ⟨[], by simp⟩
  | cons o rest ih =>
    obtain ⟨e1, h1⟩ := opDone_trace o s
    obtain ⟨e2, h2⟩ := ih (opDone o s)
    exact ⟨e1 ++ e2, by rw [opsDone_cons, h2, h1, List.append_assoc]⟩

theorem eventCount_cons (o : Op) (ops : List Op) :
    eventCount (o :: ops) = (if o.isEvent then 1 else 0) + eventCount ops := by
  unfold eventCount; rw [List.filter_cons]; split <;> simp [Nat.add_comm]

/-- The position after a sequence is that before it plus the number of its events. -/
theorem opsDone_stepIdx (ops : List Op) (s : State) : (opsDone ops s).stepIdx = s.stepIdx + eventCount ops := by
  induction ops generalizing s with
  | nil => rfl
  | cons o rest ih => rw [opsDone_cons, ih, opDone_stepIdx, eventCount_cons]; omega

/-- The number of bytes a sequence sends. -/
def byteCount (ops : List Op) : Nat := (ops.filter Op.isByte).length

theorem byteCount_cons (o : Op) (ops : List Op) :
    byteCount (o :: ops) = (if o.isByte then 1 else 0) + byteCount ops := by
  unfold byteCount; rw [List.filter_cons]; split <;> simp [Nat.add_comm]

theorem byteCount_append (a b : List Op) : byteCount (a ++ b) = byteCount a + byteCount b := by
  simp [byteCount]

theorem opDone_accepts (o : Op) (s : State) :
    (opDone o s).accepts = if o.isByte then s.accepts.map (· - 1) else s.accepts := by
  cases o with
  | elemFirst a => simp only [opDone, opWait]; split <;> simp [sentByte, takeByte, Op.isByte]
  | elemSecond a => simp only [opDone, opWait]; split <;> simp [sentByte, takeByte, Op.isByte]
  | _ => simp [opDone, sentByte, takeByte, waitEvent, Op.isByte]

theorem accepts_opDone {o : Op} {n : Nat} {s : State} (h : Accepts ((if o.isByte then 1 else 0) + n) s) :
    Accepts n (opDone o s) := by
  intro m hm
  rw [opDone_accepts] at hm
  cases hb : o.isByte <;> simp only [hb, Bool.false_eq_true, if_false, if_true] at h hm
  · exact (by have := h m hm; omega)
  · cases ha : s.accepts with
    | none => simp [ha] at hm
    | some k => have := h k ha; simp [ha] at hm; omega

/-- Every element a sequence needs is ready when its turn comes. -/
def elemsReady (ops : List Op) (s : State) : Bool :=
  match ops with
  | [] => true
  | o :: rest => elemReady o s && elemsReady rest (opDone o s)

theorem elemsReady_append (a b : List Op) (s : State) :
    elemsReady (a ++ b) s = (elemsReady a s && elemsReady b (opsDone a s)) := by
  induction a generalizing s with
  | nil => simp [elemsReady]
  | cons o rest ih => simp [elemsReady, ih, Bool.and_assoc]

/-- A sequence runs to its end where the transport takes its bytes and its elements are ready (R185). -/
theorem runOps_accepts {ops : List Op} {s : State} (h : Accepts (byteCount ops) s) (he : elemsReady ops s = true) :
    runOps ops s = .done (opsDone ops s) := by
  induction ops generalizing s with
  | nil => rfl
  | cons o rest ih =>
    rw [byteCount_cons] at h
    simp only [elemsReady, Bool.and_eq_true] at he
    have hstep : runOp o s = .done (opDone o s) := by
      rw [runOp_eq, if_neg (by simp [he.1]), if_neg]
      rintro ⟨hb, h0⟩
      have := h 0 h0
      simp [hb] at this
    simp only [runOps, hstep, opsDone_cons]
    exact ih (accepts_opDone h) he.2

/-- A sequence without buffer elements never waits for memory. -/
theorem elemsReady_of_all {ops : List Op} (h : ∀ o ∈ ops, ∀ s, elemReady o s = true) (s : State) :
    elemsReady ops s = true := by
  induction ops generalizing s with
  | nil => rfl
  | cons o rest ih =>
    simp only [elemsReady, Bool.and_eq_true]
    exact ⟨h o (by simp) s, ih (fun o' ho' => h o' (by simp [ho'])) _⟩

/-- An accepted request that nothing stalls ends idle, in the fold of its sequence. -/
theorem runRequest_accepts {i : Instr} {ops : List Op} {s : State} (h : Accepts (byteCount ops) s)
    (he : elemsReady ops (s.begin i) = true) : runRequest i ops s = .next (opsDone ops (s.begin i)).idle := by
  have : Accepts (byteCount ops) (s.begin i) := h
  rw [runRequest, runOps_accepts this he]

/-- Everything running an accepted request can do. -/
theorem runRequest_cases {i : Instr} {ops : List Op} {s t : State} (h : runRequest i ops s = .next t) :
    t = (opsDone ops (s.begin i)).idle ∨
      ∃ pre o post, ops = pre ++ o :: post ∧ o.isByte = true ∧ t = opWait o (opsDone pre (s.begin i)) := by
  unfold runRequest at h
  cases hr : runOps ops (s.begin i) with
  | done u =>
    rw [hr] at h
    cases h
    exact .inl (by rw [runOps_done hr])
  | stuck why u =>
    rw [hr] at h
    cases h
    obtain ⟨pre, o, post, hs, -, ho⟩ := runOps_stuck hr
    obtain ⟨hb, ht, -⟩ := runOp_stuck ho
    exact .inr ⟨pre, o, post, hs, hb, ht⟩

/-- A request always answers a next state. -/
theorem runRequest_next (i : Instr) (ops : List Op) (s : State) : ∃ t, runRequest i ops s = .next t := by
  unfold runRequest; split <;> exact ⟨_, rfl⟩

/-- Everything going on with a request in flight can do where it answers a next state: it ends, or it waits again after an
event or the read of an element. -/
theorem resumeOps_cases {ops : List Op} {s t : State} (h : resumeOps ops s = .next t) :
    t = (opsDone (afterEvents s.stepIdx ops) s).idle ∨
      (∃ pre o post, afterEvents s.stepIdx ops = pre ++ o :: post ∧ o.isByte = true ∧ t = opWait o (opsDone pre s)) ∧
        (t.stepIdx ≠ s.stepIdx ∨ t.elem ≠ s.elem) := by
  unfold resumeOps at h
  cases hr : runOps (afterEvents s.stepIdx ops) s with
  | done u =>
    rw [hr] at h
    cases h
    exact .inl (by rw [runOps_done hr])
  | stuck why u =>
    rw [hr] at h
    dsimp only at h
    split at h
    · cases h
    · rename_i hne
      cases h
      obtain ⟨pre, o, post, hs, -, ho⟩ := runOps_stuck hr
      obtain ⟨hb, ht, -⟩ := runOp_stuck ho
      exact .inr ⟨⟨pre, o, post, hs, hb, ht⟩, not_and_or.1 hne⟩

/-- Where going on with a request answers a fault, it is the reason the sequence is stuck for, and nothing has moved. -/
theorem resumeOps_fault {ops : List Op} {s : State} {why : Fault} (h : resumeOps ops s = .fault why) :
    ∃ t, runOps (afterEvents s.stepIdx ops) s = .stuck why t ∧ t.stepIdx = s.stepIdx ∧ t.elem = s.elem := by
  unfold resumeOps at h
  split at h
  · cases h
  · rename_i w t hr
    split at h
    · rename_i hq
      cases h
      exact ⟨t, hr, hq⟩
    · cases h

/-- Going on with a request never answers a refusal. -/
theorem resumeOps_ne_refused (ops : List Op) (s : State) (r : Refusal) : resumeOps ops s ≠ .refused r := by
  unfold resumeOps; split
  · nofun
  · split <;> nofun

end Sys2Proof.Machine
end

