-- ==== Sys2Proof/Laws/Panel.lean ====
section
/-! SUPPORT. The view of the panel's orientation, event by event: what each kind of event does to it, and that a trace is
seen piece by piece. -/

namespace Sys2Proof.Machine

@[simp] theorem PanelView.after_nil (c : Config) (v : PanelView) : PanelView.after c v [] = v := rfl

@[simp] theorem PanelView.after_cons (c : Config) (v : PanelView) (e : Event) (evs : List Event) :
    PanelView.after c v (e :: evs) = PanelView.after c (v.see c e) evs := rfl

/-- A trace is seen piece by piece. -/
theorem PanelView.after_append (c : Config) (v : PanelView) (a b : List Event) :
    PanelView.after c v (a ++ b) = PanelView.after c (PanelView.after c v a) b := List.foldl_append

/-- A wait tells the panel nothing. -/
@[simp] theorem PanelView.see_wait (c : Config) (v : PanelView) (k : WaitKind) : v.see c (.wait k) = v := rfl

/-- After its first parameter a command has no more to say of the orientation. -/
theorem PanelView.after_data (c : Config) (o : Option Byte) (bs : List Byte) :
    PanelView.after c { awaiting := false, orientation := o } (bs.map (.byte .high)) =
      { awaiting := false, orientation := o } := by
  induction bs with
  | nil => rfl
  | cons b rest ih => simpa [PanelView.see] using ih

/-- A command other than memory-access-control and the software reset leaves the orientation alone, whatever its
parameters. -/
theorem PanelView.after_other_command {c : Config} {op : Byte} (hm : op ≠ c.opMadctl) (hr : op ≠ c.opSwreset)
    (v : PanelView) (bs : List Byte) :
    PanelView.after c v (.byte .low op :: bs.map (.byte .high)) = { awaiting := false, orientation := v.orientation } := by
  have hs : v.see c (.byte .low op) = { awaiting := false, orientation := v.orientation } := by simp [PanelView.see, hm, hr]
  rw [PanelView.after_cons, hs, PanelView.after_data]

/-- Memory-access-control with its parameter sets the orientation, whatever the panel was told before. -/
theorem panelOrientation_madctl (c : Config) (evs : List Event) (m : Byte) :
    panelOrientation c (evs ++ [.byte .low c.opMadctl, .byte .high m]) = some m := by
  simp [panelOrientation, PanelView.after_append, PanelView.see]

/-- A set_rotation that has sent its two bytes leaves the panel in the orientation it caches. -/
theorem orientationIsCached_of_madctl {s : State} {m : BitVec 2} {evs : List Event} (hr : s.rotation = some m)
    (ht : s.trace = evs ++ [.byte .low s.cfg.opMadctl, .byte .high (madctlByte s.cfg m)]) : OrientationIsCached s :=
  ⟨m, hr, by rw [ht, panelOrientation_madctl]⟩

/-- A command other than memory-access-control and the software reset, with its parameters, leaves the orientation the panel
was told. -/
theorem panelOrientation_other_command {c : Config} {op : Byte} (hm : op ≠ c.opMadctl) (hr : op ≠ c.opSwreset)
    (evs : List Event) (bs : List Byte) :
    panelOrientation c (evs ++ .byte .low op :: bs.map (.byte .high)) = panelOrientation c evs := by
  rw [panelOrientation, PanelView.after_append, PanelView.after_other_command hm hr, panelOrientation]

end Sys2Proof.Machine
end

