-- ==== Sys2Proof/Laws/PerInstr.lean ====
section
/-! SUPPORT. A property of every request, one lemma per constructor: its encoding has the number of words that the opcode
map gives its OP, and word 0 carries that OP (R69, R78). -/

namespace Sys2Proof.Laws.WordCount

/-- The words of a request are as many as the opcode map says, and word 0 carries its OP (R69, R78). -/
def Statement (i : Instr) : Prop :=
  (encode i).length = requestWords (opcodeOf i) ∧ ∃ w0 rest, encode i = w0 :: rest ∧ opField w0 = opcodeOf i

theorem initialise : Statement .initialise := ⟨by decide, _, _, rfl, opField_word0 _ _ _⟩

theorem setRotation (mode : Byte) : Statement (.setRotation mode) := ⟨rfl, _, _, rfl, opField_word0 _ _ _⟩

theorem setCursor (x y : Half) : Statement (.setCursor x y) := ⟨rfl, _, _, rfl, opField_word0 _ _ _⟩

theorem writeText (fontsize : Byte) (textaddr : Word) : Statement (.writeText fontsize textaddr) :=
  ⟨rfl, _, _, rfl, opField_word0 _ _ _⟩

theorem pushPixels (x y w h : Half) (buf : Word) : Statement (.pushPixels x y w h buf) :=
  ⟨rfl, _, _, rfl, opField_word0 _ _ _⟩

theorem writePixel (color : Half) : Statement (.writePixel color) := ⟨rfl, _, _, rfl, opField_word0 _ _ _⟩

theorem writeColor (color : Half) (count : Word) : Statement (.writeColor color count) :=
  ⟨rfl, _, _, rfl, opField_word0 _ _ _⟩

theorem setAddrWindow (x y w h : Half) : Statement (.setAddrWindow x y w h) := ⟨rfl, _, _, rfl, opField_word0 _ _ _⟩

theorem writeFillRect (x y w h color : Half) : Statement (.writeFillRect x y w h color) :=
  ⟨rfl, _, _, rfl, opField_word0 _ _ _⟩

theorem dcInit : Statement .dcInit := ⟨rfl, _, _, rfl, opField_word0 _ _ _⟩

theorem dcLow : Statement .dcLow := ⟨rfl, _, _, rfl, opField_word0 _ _ _⟩

theorem dcHigh : Statement .dcHigh := ⟨rfl, _, _, rfl, opField_word0 _ _ _⟩

theorem writeCommand (opcode : Byte) : Statement (.writeCommand opcode) := ⟨rfl, _, _, rfl, opField_word0 _ _ _⟩

theorem spiWrite (byte : Byte) : Statement (.spiWrite byte) := ⟨rfl, _, _, rfl, opField_word0 _ _ _⟩

end Sys2Proof.Laws.WordCount
end

