-- ==== Sys2Proof/Tests/Slice0.lean ====
section
/-! SUPPORT. Tests: words written out from the encodings of R64 to R69, requests with the results 95_test_vectors.md gives
them (its row is named at each test), an ill-formed term for each check, and a witness for the hypotheses of each
statement. -/

namespace Sys2Proof.Tests

open Sys2Proof.Machine

/-- A property of the next state; false where there is none. -/
def holds (o : Host.Outcome State Fault Refusal) (p : State → Bool) : Bool :=
  match o with
  | .next t => p t
  | .fault _ => false
  | .refused _ => false

/-- The outcome is this fault. -/
def stopsWith (o : Host.Outcome State Fault Refusal) (f : Fault) : Bool :=
  match o with
  | .next _ => false
  | .fault g => decide (g = f)
  | .refused _ => false

/-- The outcome is this refusal. -/
def refusedWith (o : Host.Outcome State Fault Refusal) (r : Refusal) : Bool :=
  match o with
  | .next _ => false
  | .fault _ => false
  | .refused q => decide (q = r)

/-- The clean-boot state S0 with an empty trace. -/
def clean : State := { cleanBoot Config.default with trace := [] }

/-- A configured block with the tracker in a given context and nothing initialised. -/
def inContext (p : ProtoState) : State := { State.reset with dcCfg := true, proto := p }

/-- S0 with host memory `CD AB 02 01` at 0x1000, and the words of a request presented. -/
def loaded (ws : List Word) : State :=
  { clean with mem := [(0x1000, 0xCD), (0x1001, 0xAB), (0x1002, 0x02), (0x1003, 0x01)], port := ws }

/-- S0 with a stream open on the window (0, 0, 2, 1) that owes `r` bytes. -/
def streaming (r : Nat) : State :=
  { clean with proto := .stream (some r), winSc := some 0, winEc := some 1, winSp := some 0, winEp := some 0 }

/-- The events of `C:hh`. -/
def c (b : Byte) : Event := .byte .low b

/-- The events of `D:hh`. -/
def d (b : Byte) : Event := .byte .high b

/-! ### Words from the spec's encodings -/

/-- R69 with R66: the fields C16, A8 and OP of word 0 written bit by bit, then XY, WH and U32. -/
theorem test_words_of_each_family :
    decode [0b0000000000000000_00000000_00000001] = .decoded .initialise 1 ∧
    decode [0b0000000000000000_00000011_00000010] = .decoded (.setRotation 3) 1 ∧
    decode [0b0000000000000000_00000000_00000011, 0b1000000000000000_0111111111111111] =
      .decoded (.setCursor 0x7FFF 0x8000) 2 ∧
    decode [0b1111100000000000_00000000_00000110] = .decoded (.writePixel 0xF800) 1 ∧
    decode [0b0000000000000000_00000000_00001000, 0b0000000000010100_0000000000001010,
      0b0000000000000011_0000000000000010] = .decoded (.setAddrWindow 10 20 2 3) 3 ∧
    decode [0b0000000000000000_10101011_00001110] = .decoded (.spiWrite 0xAB) 1 := by decide

/-- TV-E1 to TV-E5, TV-E7, TV-E9, TV-E12 and TV-K6: unassigned OP values and reserved fields are refused. -/
theorem test_ill_formed_words_are_refused :
    decode [0x00000000] = .illegal 0x00000000 ∧ decode [0x0000000F] = .illegal 0x0000000F ∧
    decode [0x000000FF] = .illegal 0x000000FF ∧ decode [0x00000101] = .illegal 0x00000101 ∧
    decode [0x00010001] = .illegal 0x00010001 ∧ decode [0x00010002] = .illegal 0x00010002 ∧
    decode [0x12340106] = .illegal 0x12340106 ∧ decode [0x00000105, 0, 0, 0] = .illegal 0x00000105 ∧
    decode [0x00010204, 0x2000] = .illegal 0x00010204 := by decide

/-- TV-E13, and word 0 alone of the longest request. -/
theorem test_missing_words_are_counted :
    decode [0x00000008, 0] = .needMore 1 ∧ decode [0x00000005] = .needMore 3 ∧ decode [] = .needMore 1 := by decide

/-- The row's bits of the opcode table for push_pixels, with operand words 0x00060004, 0x00020002 and 0x1000 (V1.5). -/
theorem test_table_word_decodes :
    decodeTableWord 128 0x00001000_00020002_00060004_00000005 = some (.pushPixels 4 6 2 2 0x1000) ∧
    decodeTableWord 32 0x00000101 = none := by decide

/-- A table word placed where the next step takes it is executed by that step. -/
theorem test_fetch_word_runs_next :
    holds (step (State.reset.withFetchWord 32 0x0000000A)) (fun t => decide (t.dcCfg = true ∧ t.port = [])) = true ∧
    holds (step (State.reset.withFetchWord 64 0x00020001_00000003)) (fun t => decide (t.cursorX = some 1 ∧
      t.cursorY = some 2 ∧ t.port = [])) = true := by decide

/-! ### Ill-formed parameters, one for each check -/

theorem test_default_parameters_conform :
    Config.default.wf = true ∧ Config.default.tableIsPortrait = true ∧ Instr.wf (.setRotation 255) = true := by decide

theorem test_equal_opcodes_are_refused : Config.distinctOps { Config.default with opPaset := 0x2A } = false := by decide

theorem test_table_without_reset_is_refused :
    Config.startsWithReset { Config.default with initTable := Config.exInitTable.drop 1 } = false := by decide

theorem test_table_without_display_on_is_refused :
    Config.endsWithDisplayOn { Config.default with initTable := Config.exInitTable.dropLast } = false := by decide

theorem test_third_wait_is_refused :
    Config.middleIsCommands { Config.default with
      initTable := Config.exInitTable.take 2 ++ .wait .resetWait :: Config.exInitTable.drop 2 } = false := by decide

theorem test_window_command_in_table_is_refused :
    Config.middleAvoids { Config.default with
      initTable := Config.exInitTable.take 2 ++ .cmd 0x2A [] :: Config.exInitTable.drop 2 } = false := by decide

theorem test_table_without_madctl_is_refused :
    Config.middleHasPurposes { Config.default with opMadctl := 0x77 } = false := by decide

theorem test_madctl_of_two_bytes_is_refused :
    Config.madctlHasOneByte { Config.default with
      initTable := Config.exInitTable.take 4 ++ .cmd 0x36 [0x48, 0] :: Config.exInitTable.drop 4 } = false ∧
    Config.madctlHasOneByte { Config.default with
      initTable := Config.exInitTable.take 4 ++ .cmd 0x36 [] :: Config.exInitTable.drop 4 } = false := by decide

theorem test_landscape_table_is_not_portrait :
    Config.tableIsPortrait { Config.default with madctlRot0 := 0x28 } = false ∧
    Config.tableSelects { Config.default with madctlRot0 := 0x28 } 0x48 = true := by decide

theorem test_memory_out_of_order_is_ill_formed :
    memoryWf [(2, 0), (1, 0)] = false ∧ memoryWf [(0x100000000, 0)] = false ∧
    memoryWf (writeByte (writeByte [] 2 7) 1 9) = true := by decide

/-! ### Requests -/

/-- TV-T3: CONTROL reads 0x1A after dc_init from reset. -/
theorem test_dc_init : holds (exec .dcInit State.reset) (fun t => decide (statusValue 3 t = .value 0x1A)) = true := by decide

/-- TV-T2: dc_high before dc_init. -/
theorem test_dc_high_unconfigured :
    holds (exec .dcHigh State.reset) (fun t => decide (t.dc = .undef ∧ statusValue 4 t = .value 2 ∧ t.trace = [])) = true :=
  by decide

/-- TV-T10: dc_low after dc_init. -/
theorem test_dc_low : holds (exec .dcLow clean) (fun t => decide (t.dc = .low ∧ t.viol = Marks.empty)) = true := by decide

/-- TV-T11: a memory-write command with no window. -/
theorem test_write_command_ramwr :
    holds (exec (.writeCommand 0x2C) clean) (fun t => decide (t.trace = [c 0x2C] ∧ t.dc = .undef ∧
      t.proto = .stream none ∧ statusValue 4 t = .value 8)) = true := by decide

/-- TV-T1: a raw byte at reset. -/
theorem test_spi_write_at_reset :
    holds (exec (.spiWrite 0x12) State.reset) (fun t => decide (t.trace = [.byte .undef 0x12] ∧
      statusValue 4 t = .value 6)) = true := by decide

/-- TV-T8 (its last byte): the fourth column parameter completes the group. -/
theorem test_spi_write_completes_a_column_group :
    holds (exec (.spiWrite 0xEF) { inContext (.param 0x2A [0, 0, 0]) with dc := .high }) (fun t => decide
      (t.winSc = some 0 ∧ t.winEc = some 239 ∧ t.proto = .param 0x2A [0, 0, 0, 0xEF] ∧ t.viol = Marks.empty)) = true :=
  by decide

set_option maxRecDepth 4000 in
/-- TV-I1: 57 events, and the clean-boot registers. -/
theorem test_initialise_after_dc_init :
    holds (exec .initialise { State.reset with dcCfg := true }) (fun t => decide (t.trace.length = 57 ∧ t.initDone = true ∧
      t.proto = .param 0x29 [] ∧ t.viol = Marks.empty ∧ statusValue 0 t = .value 0x014000F0)) = true := by decide

set_option maxRecDepth 4000 in
/-- R103 and the corner case of R99: a transport that stops before the last byte leaves the block busy and not
initialised. -/
theorem test_initialise_stalled :
    holds (exec .initialise { State.reset with dcCfg := true, accepts := some 54 }) (fun t => decide (t.busy = true ∧
      t.initDone = false ∧ t.width = none) && stopsWith (step t) .transportStalled) = true := by decide

/-- V1.4: mode 5 is mode 1. -/
theorem test_set_rotation_wraps :
    holds (exec (.setRotation 5) clean) (fun t => decide (t.trace = [c 0x36, d 0x28] ∧ statusValue 1 t = .value 1 ∧
      statusValue 0 t = .value 0x00F00140 ∧ t.dc = .high)) = true := by decide

/-- TV-A12: set_rotation cuts a stream short. -/
theorem test_set_rotation_in_a_stream :
    holds (exec (.setRotation 3) (streaming 4)) (fun t => decide (t.trace = [c 0x36, d 0xE8] ∧
      statusValue 4 t = .value 16)) = true := by decide

/-- TV-K1: CURSOR holds the stored bits. -/
theorem test_set_cursor :
    holds (exec (.setCursor 0xFFFD 400) clean) (fun t => decide (t.trace = [] ∧ statusValue 2 t = .value 0x0190FFFD)) = true :=
  by decide

/-- TV-K5: FAULT reads 0x100 after write_text, and the block takes no step. -/
theorem test_write_text :
    holds (exec (.writeText 2 0x2000) clean) (fun t => decide (t.trace = [] ∧ statusValue 9 t = .value 0x100) &&
      refusedWith (step t) (.requestRefused .writeTextOutOfScope)) = true := by decide

/-- TV-A1: the eleven bytes and the count. -/
theorem test_set_addr_window :
    holds (exec (.setAddrWindow 10 20 2 3) clean) (fun t => decide (t.trace = [c 0x2A, d 0, d 0x0A, d 0, d 0x0B, c 0x2B,
      d 0, d 0x14, d 0, d 0x16, c 0x2C] ∧ t.proto = .stream (some 12) ∧ statusValue 7 t = .value 0x000B000A ∧
      statusValue 8 t = .value 0x00160014)) = true := by decide

/-- TV-A6: the end wraps to 0 and the window is invalid. -/
theorem test_set_addr_window_wraps :
    holds (exec (.setAddrWindow 0xFFFF 0 2 1) clean) (fun t => decide (t.winEc = some 0 ∧ t.proto = .stream none ∧
      statusValue 4 t = .value 8)) = true := by decide

/-- TV-X2: a pixel beyond the window. -/
theorem test_write_pixel_beyond_the_window :
    holds (exec (.writePixel 0xF800) (streaming 0)) (fun t => decide (t.trace = [d 0xF8, d 0x00] ∧
      t.proto = .stream (some 0) ∧ statusValue 4 t = .value 16)) = true := by decide

/-- TV-X15: a pixel after dc_init alone. -/
theorem test_write_pixel_uninitialised :
    holds (exec (.writePixel 1) (inContext .unknown)) (fun t => decide (t.trace = [d 0x00, d 0x01] ∧
      statusValue 4 t = .value 0x121)) = true := by decide

/-- TV-X6: three pixels into a window of two. -/
theorem test_write_color_one_too_many :
    holds (exec (.writeColor 0x1234 3) (streaming 4)) (fun t => decide (t.trace = [d 0x12, d 0x34, d 0x12, d 0x34, d 0x12,
      d 0x34] ∧ t.proto = .stream (some 0) ∧ statusValue 4 t = .value 16)) = true := by decide

/-- TV-X5: zero pixels. -/
theorem test_write_color_zero :
    holds (exec (.writeColor 0x1234 0) (streaming 0)) (fun t => decide (t = streaming 0)) = true := by decide

/-- V1.2, with a 1 by 2 rectangle. -/
theorem test_write_fill_rect :
    holds (exec (.writeFillRect 10 20 1 2 0xF800) clean) (fun t => decide (t.trace = [c 0x2A, d 0, d 0x0A, d 0, d 0x0A,
      c 0x2B, d 0, d 0x14, d 0, d 0x15, c 0x2C, d 0xF8, d 0, d 0xF8, d 0] ∧ t.proto = .stream (some 0))) = true := by decide

/-- TV-X13: an empty rectangle. -/
theorem test_write_fill_rect_empty :
    holds (exec (.writeFillRect 0 0 0 5 0x1234) clean) (fun t => decide (t.trace = [c 0x2A, d 0, d 0, d 0xFF, d 0xFF, c 0x2B,
      d 0, d 0, d 0, d 4, c 0x2C] ∧ t.dc = .undef ∧ t.proto = .stream none)) = true := by decide

/-- TV-X7: push_pixels under LoFirst, and where its pixels land. -/
theorem test_push_pixels_lo_first :
    holds (exec (.pushPixels 0 0 2 1 0x1000) { loaded [] with
      cfg := { Config.default with pushPixelOrder := .loFirst } }) (fun t => decide (t.trace.drop 11 = [d 0xCD, d 0xAB,
      d 0x02, d 0x01] ∧ frameWrites t = [((0, 0), 0xCDAB), ((1, 0), 0x0201)])) = true := by decide

/-- TV-X12, with the second element not admitted: stuck before its bytes, then going on once it is. -/
theorem test_push_pixels_stuck_and_resumed :
    holds (exec (.pushPixels 0 0 1 3 0x1000) (loaded [])) (fun t => decide (t.busy = true ∧ t.stepIdx = 15) && stopsWith (step t) .memoryNotAdmitted &&
      holds (step (placeByte 0x1004 0x34 (placeByte 0x1005 0x12 t))) (fun u => decide (u.busy = false ∧
        u.trace.drop 15 = [d 0x12, d 0x34] ∧ u.proto = .stream (some 0)))) = true := by decide

/-- Log entry 24: an element admitted while the transport takes no byte is read, once, and the pin driven for it. -/
theorem test_late_element_is_read_and_kept :
    holds (exec (.pushPixels 0 0 1 3 0x1000) (loaded [])) (fun t =>
      holds (step (placeByte 0x1004 0x34 (placeByte 0x1005 0x12 { t with accepts := some 0 }))) (fun u =>
        decide (u.elem = some 0x1234 ∧ u.dc = .high ∧ u.stepIdx = 15) && stopsWith (step u) .transportStalled)) = true := by
  decide

/-- Log entry 25: a fault recorded after a refusal is the stop that is answered. -/
theorem test_fault_after_refusal :
    holds (step (requestRead 0xFF { clean with refused := some .writeTextOutOfScope })) (fun t => decide (
      statusValue 9 t = .value 0x104) && stopsWith (step t) (.halted .unassignedRegister 0xFF)) = true := by decide

/-! ### Ports -/

/-- TV-F1, TV-F5 and TV-F6: reads of no value, and the first fault kept. -/
theorem test_status_read_faults :
    holds (step (requestRead 0x00 State.reset)) (fun t => decide (t.fault = some (.unwrittenRead, 0) ∧ t.readData = none)) =
      true ∧
    holds (step (requestRead 0x0B clean)) (fun t => decide (t.fault = some (.unassignedRegister, 0x0B)) &&
      holds (step (requestRead 0xFF t)) (fun u => decide (statusValue 0x0A u = .value 0x0B))) = true := by decide

/-- The reads of S0 that section 2.4 lists, and TV-T4. -/
theorem test_status_reads :
    holds (step (requestRead 0x05 clean)) (fun t => decide (t.readData = some 0x2901)) = true ∧
    holds (step (requestRead 0x03 clean)) (fun t => decide (t.readData = some 0x1B)) = true ∧
    holds (step (requestRead 0x03 State.reset)) (fun t => decide (t.readData = some 0x18)) = true ∧
    statusValue 0x06 (streaming 12) = .value 12 ∧ statusValue 0x05 (streaming 12) = .value 6 := by decide

/-- TV-X9 and TV-F9: an odd address faults, and no later request is accepted. -/
theorem test_fault_stops_the_block :
    holds (step (loaded [0x00000005, 0, 0x00010002, 0x00001001, 0x00000002])) (fun t => decide (
      statusValue 9 t = .value 2 ∧ statusValue 0x0A t = .value 0x1001 ∧ t.trace = []) &&
      stopsWith (step t) (.halted .bufferMisaligned 0x1001)) = true := by decide

/-- TV-E4 at the port, and the way out (R155, R167). -/
theorem test_illegal_request_until_reset :
    holds (step (loaded [0x00000101, 0x0A])) (fun t => decide (t.fault = some (.illegalRequest, 0x101) ∧ t.port = [0x0A]) &&
      holds (step { t with input := some .powerOn }) (fun u => decide (u.fault = none ∧ u.initDone = false ∧
        u.port = [0x0A]))) = true := by decide

/-! ### The request language -/

/-- R79 to R82: one line each, and the examples of R82. -/
theorem test_assembler :
    assembleText Config.default "set_cursor -3, 400 ; a comment".toList = some [.setCursor 0xFFFD 400] ∧
    assembleText Config.default "command OP_MADCTL, MADCTL_ROT[1]".toList =
      some [.writeCommand 0x36, .dcHigh, .spiWrite 0x28] := by decide

/-- R80: literals out of range, a minus sign outside set_cursor, and a missing operand are refused. -/
theorem test_assembler_refuses :
    assembleLine Config.default .setRotation [.lit false 256] = none ∧
    assembleLine Config.default .writePixel [.lit false 65536] = none ∧
    assembleLine Config.default .writePixel [.lit true 1] = none ∧
    assembleLine Config.default .setCursor [.lit false 32768, .lit false 0] = none ∧
    assembleLine Config.default .setCursor [.lit true 32769, .lit false 0] = none ∧
    assembleLine Config.default .writeColor [.lit false 0, .lit false 4294967296] = none ∧
    assembleLine Config.default .writeParams [] = none ∧
    assembleLine Config.default .setCursor [.lit true 32768, .lit false 32767] = some [.setCursor 0x8000 0x7FFF] := by
  decide

/-! ### Witnesses: states and operands that meet the hypotheses of each statement, clause by clause -/

theorem accepts_clean (n : Nat) : Accepts n clean := fun _ h => nomatch h

theorem accepts_streaming (n r : Nat) : Accepts n (streaming r) := fun _ h => nomatch h

theorem accepts_loaded (n : Nat) (ws : List Word) : Accepts n (loaded ws) := fun _ h => nomatch h

theorem accepts_reset (n : Nat) : Accepts n State.reset := fun _ h => nomatch h

theorem ready_loaded (ws : List Word) : Ready (loaded ws) := ⟨⟨rfl, rfl, rfl⟩, rfl, rfl, rfl⟩

theorem machineInv_loaded (ws : List Word) : MachineInv (loaded ws) where
  geometry := .inr ⟨0, rfl, rfl, rfl⟩
  initialised := fun _ h => nomatch h
  proto := (by decide : if isWindowCmd Config.default 0x29 = true then ([] : List Byte).length ≤ 4 else ([] : List Byte) = [])
  window := ⟨rfl, rfl⟩
  unconfigured := fun h => Bool.noConfusion h
  position := ⟨rfl, rfl⟩
  quiescent := fun _ => rfl
  memory := rfl

/-- The elements 0xABCD and 0x0102 of V1.5, at 0x1000. -/
def sampleElement (i : Nat) : Half := if i = 0 then 0xABCD else 0x0102

theorem holdsElements_loaded (ws : List Word) : HoldsElements (loaded ws) 0x1000 2 sampleElement := by
  intro i hi
  rcases (by omega : i = 0 ∨ i = 1) with rfl | rfl
  · exact ⟨0xCD, 0xAB, rfl, rfl, rfl⟩
  · exact ⟨0x02, 0x01, rfl, rfl, rfl⟩

theorem witness_PowerOnResetLeavesEveryFieldAtItsResetValue :
    { clean with input := some .powerOn, fault := some (.unwrittenRead, 7) }.input = some .powerOn := rfl

theorem witness_StepExecutesTheDecodedRequest : Ready (loaded [0x12340006, 0x0A]) ∧
    decode (loaded [0x12340006, 0x0A]).port = .decoded (.writePixel 0x1234) 1 ∧ Instr.wf (.writePixel 0x1234) = true :=
  ⟨ready_loaded _, by decide, by decide⟩

theorem witness_StepWaitsForMissingWords : Ready (loaded [0x00000008, 0]) ∧ decode (loaded [0x00000008, 0]).port = .needMore 1 :=
  ⟨ready_loaded _, by decide⟩

theorem witness_UnassignedOpFaultsAndConsumesOneWord : Ready (loaded [0x0F, 0x0A]) ∧ UnassignedOp 0x00 ∧ UnassignedOp 0x0F ∧
    UnassignedOp 0xFF :=
  ⟨ready_loaded _, .inl (by decide), .inr (by decide), .inr (by decide)⟩

theorem witness_NonzeroReservedFieldFaults : Ready (loaded [0x00000101, 0x0A]) ∧ ReservedNonzero 0x00000101 ∧
    ReservedNonzero 0x8000000C ∧ ReservedNonzero 0x00010002 ∧ ReservedNonzero 0x00000106 :=
  ⟨ready_loaded _, .inl (by decide), .inl (by decide), .inr (.inl (by decide)), .inr (.inr (by decide))⟩

theorem witness_RequestLengthIsAFunctionOfTheOp : ¬ UnassignedOp 0x00000005 ∧ ¬ ReservedNonzero 0x00000005 ∧
    [(0 : Word), 0].length + 1 < wordsColumn ((0x00000005 : Word).toNat % 256) ∧
    wordsColumn ((0x00000005 : Word).toNat % 256) ≤ [(0 : Word), 0, 0].length + 1 := by
  unfold UnassignedOp ReservedNonzero; decide

theorem witness_EncodeAfterDecodeGivesTheWords : decode [0x00000003, 0x80007FFF, 9] = .decoded (.setCursor 0x7FFF 0x8000) 2 :=
  by decide

theorem witness_DcLowAndDcHighDriveAConfiguredPin : clean.dcCfg = true ∧ State.reset.dcCfg = false := ⟨rfl, rfl⟩

theorem witness_WriteCommandSendsOneCommandByte : Accepts 1 clean ∧ clean.dcCfg = true ∧ Accepts 1 State.reset ∧
    State.reset.dcCfg = false :=
  ⟨accepts_clean 1, rfl, accepts_reset 1, rfl⟩

theorem witness_SpiWriteSendsOneRawByte : Accepts 1 { clean with dc := .low, accepts := some 1 } ∧
    { clean with dc := .high }.dcCfg = true ∧ clean.dc = .undef ∧ State.reset.dcCfg = false :=
  ⟨fun _ h => (Option.some.inj h).le, rfl, rfl, rfl⟩

theorem witness_RawCommandSequencesFollowTheTransportLaws : clean.dcCfg = true ∧ Accepts ([(1 : Byte), 2].length + 1) clean ∧
    Accepts 2 State.reset :=
  ⟨rfl, accepts_clean 3, accepts_reset 2⟩

theorem witness_OnlySpiWriteEmitsAtUndefOnceConfigured : clean.dcCfg = true ∧
    (∃ t, exec (.writeCommand 0x2C) clean = .next t) ∧ ∀ b, Instr.writeCommand 0x2C ≠ .spiWrite b :=
  ⟨rfl, ⟨_, rfl⟩, fun _ h => Instr.noConfusion h⟩

theorem witness_CommandByteClosesTheContext : Config.default.distinctOps = true ∧
    (inContext (.param 0x2A [1, 2, 3])).proto = .param Config.default.opCaset [1, 2, 3] ∧
    (inContext (.param 0x2B [])).proto = .param Config.default.opPaset [] ∧
    (inContext (.stream (some 1))).proto = .stream (some 1) ∧
    (inContext (.param 0x2A [1, 2, 3, 4])).proto = .param 0x2A [1, 2, 3, 4] ∧
    (0x29 ≠ Config.default.opCaset ∧ 0x29 ≠ Config.default.opPaset) :=
  ⟨by decide, rfl, rfl, rfl, rfl, by decide⟩

theorem witness_CommandByteOpensItsContext : Config.default.distinctOps = true ∧
    ((0x01 : Byte) = Config.default.opSwreset) ∧ ((0x2A : Byte) ≠ Config.default.opSwreset ∧ 0x2A ≠ Config.default.opRamwr) ∧
    ((streaming 0).winSc = some 0 ∧ { streaming 0 with winEc := some 239 }.winEc = some 239 ∧ (streaming 0).winSp = some 0 ∧
      { streaming 0 with winEp := some 319 }.winEp = some 319 ∧ (streaming 0).width = some 240 ∧
      (streaming 0).height = some 320 ∧ (0 : Half).toNat ≤ (239 : Half).toNat ∧ (239 : Half).toNat < (240 : Half).toNat ∧
      (319 : Half).toNat < (320 : Half).toNat) :=
  ⟨by decide, rfl, by decide, rfl, rfl, rfl, rfl, rfl, rfl, by decide, by decide, by decide⟩

theorem witness_CommandByteOpensItsContext_invalid :
    ¬ ∃ sc ec sp ep w h, { streaming 0 with winEc := some 240 }.winSc = some sc ∧
      { streaming 0 with winEc := some 240 }.winEc = some ec ∧ { streaming 0 with winEc := some 240 }.winSp = some sp ∧
      { streaming 0 with winEc := some 240 }.winEp = some ep ∧ { streaming 0 with winEc := some 240 }.width = some w ∧
      { streaming 0 with winEc := some 240 }.height = some h ∧ sc.toNat ≤ ec.toNat ∧ ec.toNat < w.toNat ∧
      sp.toNat ≤ ep.toNat ∧ ep.toNat < h.toNat := by
  rintro ⟨_, _, _, _, _, _, -, h2, -, -, h5, -, -, h8, -⟩
  cases h2; cases h5
  exact absurd h8 (by decide)

theorem witness_DataByteIsTrackedByItsContext : Config.default.distinctOps = true ∧
    (inContext .unknown).proto = .unknown ∧ (inContext (.param 0x29 [])).proto = .param 0x29 [] ∧
    [(1 : Byte), 2].length < 3 ∧ (inContext (.param 0x2A [1, 2, 3])).proto = .param Config.default.opCaset [1, 2, 3] ∧
    (inContext (.param 0x2B [1, 2, 3])).proto = .param Config.default.opPaset [1, 2, 3] ∧ 4 ≤ [(1 : Byte), 2, 3, 4].length ∧
    (inContext (.stream none)).proto = .stream none ∧ (inContext (.stream (some 0))).proto = .stream (some 0) ∧
    (inContext (.stream (some 1))).proto = .stream (some (0 + 1)) :=
  ⟨by decide, rfl, rfl, by decide, rfl, rfl, by decide, rfl, rfl, rfl⟩

/-- Conforming parameters whose table selects a landscape orientation. -/
def landscapeTable : Config := { Config.default with madctlRot0 := 0x28, madctlRot1 := 0x48 }

theorem witness_InitializeRunsTheTableAndWritesTheRegisters :
    Accepts (tableBytes State.reset.cfg) State.reset ∧ State.reset.viol.has .beforeInit = false ∧
    { clean with viol := clean.viol.add .countMismatch }.viol.has .countMismatch = true ∧
    clean.cfg.tableIsPortrait = true ∧ clean.cfg.wf = true ∧ clean.dcCfg = true ∧ clean.cfg.tableSelects 0x48 = true ∧
    landscapeTable.wf = true ∧ landscapeTable.tableIsPortrait = false :=
  ⟨accepts_reset _, rfl, rfl, by decide, by decide, rfl, by decide, by decide, by decide⟩

theorem witness_InitializeOrdersResetWaitsAndDisplayOn : clean.cfg.wf = true ∧ clean.dcCfg = true ∧
    Accepts (tableBytes clean.cfg) clean :=
  ⟨by decide, rfl, accepts_clean _⟩

theorem witness_InitializeLeavesTheTrackerInDisplayOn : State.reset.cfg.wf = true ∧ State.reset.dcCfg = false ∧
    clean.dcCfg = true ∧ clean.cfg.initTable.getLast? = some (.cmd clean.cfg.opDispon []) ∧
    Accepts (tableBytes clean.cfg) clean :=
  ⟨by decide, rfl, rfl, rfl, accepts_clean _⟩

/-- A write_pixel in flight that has not sent its first byte. -/
def inFlight : State := { clean with req := some (.writePixel 1) }

theorem machineInv_inFlight : MachineInv inFlight where
  geometry := .inr ⟨0, rfl, rfl, rfl⟩
  initialised := fun _ h => nomatch h
  proto := (by decide : if isWindowCmd Config.default 0x29 = true then ([] : List Byte).length ≤ 4 else ([] : List Byte) = [])
  window := ⟨rfl, rfl⟩
  unconfigured := fun h => Bool.noConfusion h
  position := (by decide : 0 < eventCount (sequenceOf Config.default (.writePixel 1)))
  quiescent := fun h => absurd h (by decide)
  memory := rfl

theorem witness_InitDoneIsSetOnlyByACompletedInitialize : (∃ t, exec .dcInit clean = .next t) ∧ MachineInv inFlight ∧
    inFlight.req = some (.writePixel 1) ∧ ∃ t, resume (.writePixel 1) inFlight = .next t :=
  ⟨⟨_, rfl⟩, machineInv_inFlight, rfl, ⟨_, rfl⟩⟩

theorem witness_BootFromResetReachesTheCleanBootState : Config.default.wf = true ∧
    Config.default.initTable.getLast? = some (.cmd Config.default.opDispon []) ∧ Config.default.tableIsPortrait = true ∧
    landscapeTable.wf = true ∧ landscapeTable.initTable.getLast? = some (.cmd landscapeTable.opDispon []) ∧
    landscapeTable.tableIsPortrait = false :=
  ⟨by decide, rfl, by decide, by decide, rfl, by decide⟩

theorem witness_SetRotationSendsOneCommandAndAssignsTheGeometry : Accepts 2 clean ∧ (0 : Byte).toNat % 4 = 0 ∧
    (5 : Byte).toNat % 4 = 1 ∧ (0xFE : Byte).toNat % 4 = 2 ∧ (0xFF : Byte).toNat % 4 = 3 ∧ State.reset.initDone = false ∧
    clean.dcCfg = true ∧ clean.cfg.distinctOps = true :=
  ⟨accepts_clean 2, by decide, by decide, by decide, by decide, rfl, rfl, by decide⟩

theorem witness_RotationModeWrapsModuloFour : Accepts 2 clean ∧ (255 : Byte).toNat % 4 = (3 : Byte).toNat % 4 :=
  ⟨accepts_clean 2, by decide⟩

theorem witness_SetAddrWindowEmitsItsElevenBytes : Accepts 11 clean ∧ clean.dcCfg = true ∧ Accepts 11 State.reset ∧
    State.reset.initDone = false :=
  ⟨accepts_clean 11, rfl, accepts_reset 11, rfl⟩

theorem witness_SetAddrWindowCountsExactlyTheWindowsThatFit : Accepts 11 clean ∧ clean.dcCfg = true ∧
    clean.cfg.distinctOps = true ∧ clean.width = some 240 ∧ clean.height = some 320 ∧ WindowFits 0 0 240 320 240 320 ∧
    ¬ WindowFits 0 0 241 1 240 320 ∧ ¬ WindowFits 0 0 0 1 240 320 ∧ ¬ WindowFits 0xFFFF 0 2 1 240 320 := by
  refine ⟨accepts_clean 11, rfl, by decide, rfl, rfl, ?_⟩
  unfold WindowFits; decide

theorem witness_WindowThenExactlyItsPixelsFillsTheStream :
    [(0xF800 : Half), 0x07E0].length = (2 : Half).toNat * (1 : Half).toNat ∧ Accepts (11 + 2 * 2) clean ∧ clean.dcCfg = true ∧
    clean.cfg.distinctOps = true ∧ clean.width = some 240 ∧ clean.height = some 320 ∧ WindowFits 238 319 2 1 240 320 := by
  refine ⟨by decide, accepts_clean _, rfl, by decide, rfl, rfl, ?_⟩
  unfold WindowFits; decide

theorem witness_RawWindowSequenceEqualsSetAddrWindow : clean.initDone = true ∧ Accepts 11 clean := ⟨rfl, accepts_clean 11⟩

theorem witness_WritePixelSendsTwoDataBytes : Accepts 2 (streaming 2) ∧ (streaming 2).dcCfg = true ∧
    (streaming 2).proto = .stream (some (0 + 2)) ∧ (streaming 0).proto = .stream (some 0) ∧
    (inContext (.stream none)).proto = .stream none :=
  ⟨accepts_streaming 2 2, rfl, rfl, rfl, rfl⟩

theorem witness_WriteColorSendsTheColorCountTimes : Accepts (2 * (3 : Word).toNat) (streaming 4) ∧
    (streaming 4).dcCfg = true ∧ 0 < (3 : Word).toNat :=
  ⟨accepts_streaming _ 4, rfl, by decide⟩

theorem witness_WriteColorIsRepeatedWritePixel : MachineInv (loaded []) ∧ 1 ≤ (1 : Word).toNat ∧
    Accepts (2 * (1 : Word).toNat) (loaded []) :=
  ⟨machineInv_loaded _, by decide, accepts_loaded _ _⟩

theorem witness_FillRectStatements : Accepts (11 + 2 * ((2 : Half).toNat * (3 : Half).toNat)) clean ∧
    Accepts (11 + 2 * ((0 : Half).toNat * (3 : Half).toNat)) { clean with accepts := some 11 } ∧ clean.dcCfg = true :=
  ⟨accepts_clean _, fun _ h => (Option.some.inj h).le, rfl⟩

theorem witness_OddBufferAddressFaultsBeforeAnyEffect : (0x1001 : Word).toNat % 2 = 1 := by decide

theorem witness_PushPixelsStreamsTheBuffer : (0x1000 : Word).toNat % 2 = 0 ∧
    HoldsElements (loaded []) 0x1000 ((2 : Half).toNat * (1 : Half).toNat) sampleElement ∧
    Accepts (11 + 2 * ((2 : Half).toNat * (1 : Half).toNat)) (loaded []) ∧ (loaded []).dcCfg = true :=
  ⟨by decide, holdsElements_loaded [], accepts_loaded _ _, rfl⟩

theorem witness_PushPixelsIsWindowThenItsPixels : (0x1000 : Word).toNat % 2 = 0 ∧
    HoldsElements (loaded []) 0x1000 ((1 : Half).toNat * (2 : Half).toNat) sampleElement ∧
    Accepts (11 + 2 * ((1 : Half).toNat * (2 : Half).toNat)) (loaded []) :=
  ⟨by decide, holdsElements_loaded [], accepts_loaded _ _⟩

theorem witness_UnadmittedElementLeavesTheBlockStuck : Ready (loaded []) ∧ (0x1000 : Word).toNat % 2 = 0 ∧
    2 < (3 : Half).toNat * (1 : Half).toNat ∧ HoldsElements (loaded []) 0x1000 2 sampleElement ∧
    readByte (loaded []).mem (((0x1000 : Word).toNat + 2 * 2) % 2 ^ 32) = none ∧ Accepts (11 + 2 * 2) (loaded []) :=
  ⟨ready_loaded _, by decide, by decide, holdsElements_loaded [], by decide, accepts_loaded _ _⟩

/-- S0 with host memory, the panel told the cached orientation (the memory-access-control entry of EX_INIT). -/
def oriented : State := { loaded [] with trace := [c 0x36, d 0x48] }

theorem witness_BufferElementsLandInRowMajorOrder : (0x1000 : Word).toNat % 2 = 0 ∧ oriented.dcCfg = true ∧
    oriented.cfg.distinctOps = true ∧
    HoldsElements oriented 0x1000 ((1 : Half).toNat * (2 : Half).toNat) sampleElement ∧
    Accepts (11 + 2 * ((1 : Half).toNat * (2 : Half).toNat)) oriented ∧
    oriented.width = some 240 ∧ oriented.height = some 320 ∧ WindowFits 239 318 1 2 240 320 ∧ OrientationIsCached oriented := by
  refine ⟨by decide, rfl, by decide, holdsElements_loaded [], accepts_loaded _ [], rfl, rfl, ?_, 0, rfl, by decide⟩
  unfold WindowFits; decide

theorem witness_WriteTextIsRefusedByName : { clean with refused := some .writeTextOutOfScope }.fault = none ∧
    { clean with refused := some .writeTextOutOfScope }.input = none := ⟨rfl, rfl⟩

theorem witness_StatusRegistersReadTheirFields : clean.width = some 240 ∧ clean.rotation = some 0 ∧
    { clean with cursorX := some 0xFFFD }.cursorX = some 0xFFFD ∧ State.reset.proto = .unknown ∧
    clean.proto = .param 0x29 [] ∧ (streaming 153600).proto = .stream (some 153600) ∧ (streaming 0).winEc = some 1 ∧
    (streaming 0).winEp = some 0 ∧ { clean with cursorY := some 0 }.cursorY = some 0 :=
  ⟨rfl, rfl, rfl, rfl, rfl, rfl, rfl, rfl, rfl⟩

theorem witness_StatusReadsOfNoValueFault : State.reset.width = none ∧ State.reset.rotation = none ∧ clean.cursorX = none ∧
    (∀ r, (inContext (.stream none)).proto ≠ .stream (some r)) ∧ clean.winSc = none ∧ clean.winSp = none ∧
    0x0B ≤ (0x0B : Byte).toNat ∧ 0x0B ≤ (0xFF : Byte).toNat :=
  ⟨rfl, rfl, rfl, fun _ => by simp [inContext], rfl, rfl, by decide, by decide⟩

theorem witness_StatusReadChangesNothingButTheFault : Idle (requestRead 0x05 clean) ∧
    (requestRead 0x05 clean).input = some (.readStatus 0x05) ∧ statusValue 0x05 (requestRead 0x05 clean) = .value 0x2901 ∧
    statusValue 0x02 (requestRead 0x02 clean) = .unwritten ∧ statusValue 0x0B (requestRead 0x0B clean) = .unassigned ∧
    { clean with fault := some (.unassignedRegister, 0x0B) }.fault ≠ none :=
  ⟨⟨rfl, rfl, rfl⟩, rfl, by decide, by decide, by decide, by decide⟩

theorem witness_StatusReadWaitsWhileBusy : (requestRead 0x03 inFlight).busy = true ∧
    (requestRead 0x03 inFlight).input = some (.readStatus 0x03) := ⟨rfl, rfl⟩

theorem witness_FaultedBlockTakesNoStep :
    { clean with fault := some (.bufferMisaligned, 0x1001) }.fault = some (.bufferMisaligned, 0x1001) ∧
    { clean with fault := some (.bufferMisaligned, 0x1001) }.input = none := ⟨rfl, rfl⟩

theorem witness_RequestsLeaveEverythingElseUnchanged : (∃ t, exec (.writePixel 0xF800) (streaming 2) = .next t) ∧
    (streaming 2).dcCfg = true ∧ (streaming 2).proto.isStream = true ∧
    (∃ t, exec (.setRotation 1) State.reset = .next t) ∧ (∃ t, exec (.setCursor 1 2) clean = .next t) ∧
    (∃ t, exec (.writeColor 1 0) clean = .next t) ∧ (∃ t, exec .dcLow clean = .next t) ∧
    ∃ t, exec (.setRotation 1) { clean with accepts := some 1 } = .next t ∧ t.busy = true :=
  ⟨⟨_, rfl⟩, rfl, rfl, ⟨_, rfl⟩, ⟨_, rfl⟩, ⟨_, rfl⟩, ⟨_, rfl⟩, ⟨_, rfl, rfl⟩⟩

theorem witness_OnlySetRotationAndInitializeWriteTheGeometry :
    (∃ t, exec (.writeCommand 0x36) clean = .next t) ∧ Instr.writeCommand 0x36 ≠ .initialise ∧
    ∀ m, Instr.writeCommand 0x36 ≠ .setRotation m :=
  ⟨⟨_, rfl⟩, Instr.noConfusion, fun _ h => Instr.noConfusion h⟩

theorem witness_OnlySetCursorReadsOrWritesTheCursor : ∀ x y, Instr.writePixel 1 ≠ .setCursor x y :=
  fun _ _ h => Instr.noConfusion h

theorem witness_HostMemoryReachesOnlyPixelValues : (∀ x y w h buf, Instr.dcLow ≠ .pushPixels x y w h buf) ∧
    HoldsElements (loaded []) 0x1000 ((2 : Half).toNat * (1 : Half).toNat) sampleElement ∧
    ∃ t, exec (.pushPixels 0 0 2 1 0x1000) (loaded []) = .next t :=
  ⟨fun _ _ _ _ _ h => Instr.noConfusion h, holdsElements_loaded [], ⟨_, rfl⟩⟩

theorem witness_RequestsAddOnlyTheMarksOfTheTable : (streaming 0).cfg.wf = true ∧
    holds (exec (.writePixel 0xF800) (streaming 0)) (fun t => t.viol.has .countMismatch) = true ∧
    (streaming 0).viol.has .countMismatch = false :=
  ⟨by decide, by decide, rfl⟩

theorem witness_HistoryOnlyGrowsUntilPowerOnReset : (∃ t, step (loaded [0x2C0D]) = .next t) ∧
    (loaded [0x2C0D]).input ≠ some .powerOn :=
  ⟨⟨_, rfl⟩, fun h => nomatch h⟩

theorem witness_EveryRequestFinishesOnAWillingTransport :
    (decode (loaded [0x00000204, 0x2000]).port = .decoded (.writeText 2 0x2000) 2 ∧ Ready (loaded [0x00000204, 0x2000]) ∧
      (0x1001 : Word).toNat % 2 = 1) ∧
    decode (loaded [0x00000005, 0, 0x00010002, 0x00001000]).port = .decoded (.pushPixels 0 0 2 1 0x1000) 4 ∧
    Ready (loaded [0x00000005, 0, 0x00010002, 0x00001000]) ∧
    (loaded [0x00000005, 0, 0x00010002, 0x00001000]).accepts = none ∧
    HoldsElements (loaded [0x00000005, 0, 0x00010002, 0x00001000]) 0x1000 ((2 : Half).toNat * (1 : Half).toNat)
      sampleElement :=
  ⟨⟨by decide, ready_loaded _, by decide⟩, by decide, ready_loaded _, rfl, holdsElements_loaded _⟩

theorem witness_UnfinishedRequestIsStuck : Ready { clean with accepts := some 1 } ∧
    ∃ t, exec (.writePixel 1) { clean with accepts := some 1 } = .next t ∧ t.busy = true :=
  ⟨⟨⟨rfl, rfl, rfl⟩, rfl, rfl, rfl⟩, ⟨_, rfl, rfl⟩⟩

theorem witness_StallAndResumeEqualsNoStall : { clean with accepts := some 1 }.accepts = some 1 ∧
    (∃ t, exec (.writePixel 1) { clean with accepts := some 1 } = .next t ∧ step t = .fault .transportStalled) ∧
    (some 1 : Option Nat) ≠ some 0 ∧ (none : Option Nat) ≠ some 0 :=
  ⟨rfl, ⟨_, rfl, rfl⟩, by decide, by decide⟩

theorem witness_StepKeepsTheInvariant : MachineInv (loaded [0x00002C0D]) ∧ ∃ t, step (loaded [0x00002C0D]) = .next t :=
  ⟨machineInv_loaded _, ⟨_, rfl⟩⟩

end Sys2Proof.Tests
end

section
/-! What each request leaves unchanged: the registers an operation writes, the registers a sequence writes, and from both
the frame of every request (R15, R17, R21, R25, R27, R28, R114, R122, R147, R149). -/

namespace Sys2Proof.Machine

/-! ### The requests as sequences -/

/-- Everything a request can do where it answers a next state: it is refused, it faults on an odd buffer, or its sequence
runs. -/
theorem exec_cases {i : Instr} {s t : State} (h : exec i s = .next t) :
    (∃ f a, i = .writeText f a ∧ t = refuse .writeTextOutOfScope s) ∨
    (∃ x y w k buf, i = .pushPixels x y w k buf ∧ misaligned buf = true ∧ t = raise .bufferMisaligned buf s) ∨
    runRequest i (sequenceOf s.cfg i) s = .next t := by
  cases i with
  | writeText f a => cases h; exact .inl ⟨f, a, rfl, rfl⟩
  | pushPixels x y w k buf =>
    simp only [exec, execPushPixels] at h
    split at h
    · rename_i hb
      cases h
      exact .inr (.inl ⟨x, y, w, k, buf, rfl, hb, rfl⟩)
    · exact .inr (.inr h)
  | _ => exact .inr (.inr h)

/-- R130: the address check of push_pixels is on bit 0. -/
theorem misaligned_iff (buf : Word) : misaligned buf = true ↔ buf.toNat % 2 = 1 := by
  simp [misaligned, BitVec.getLsbD, Nat.testBit_zero]

/-! ### What a sequence holds -/

/-- The operations of a request that are no event: its checks and its register writes. -/
def stateWrites (i : Instr) : List Op :=
  match i with
  | .initialise => [.setInitDone, .setGeometry 0]
  | .setRotation mode => [.drawingCheck, .setGeometry (rotationOf mode)]
  | .setCursor x y => [.setCursor x y]
  | .writeText _ _ => []
  | .pushPixels _ _ w h _ => [.drawingCheck, .streamCheck (pixelCount w h)]
  | .writePixel _ => [.drawingCheck, .streamCheck 1]
  | .writeColor _ count => [.drawingCheck, .streamCheck count.toNat]
  | .setAddrWindow _ _ _ _ => [.drawingCheck]
  | .writeFillRect _ _ w h _ => [.drawingCheck, .streamCheck (pixelCount w h)]
  | .dcInit => [.configureDc]
  | .dcLow => [.driveDc .low]
  | .dcHigh => [.driveDc .high]
  | .writeCommand _ => []
  | .spiWrite _ => []

theorem isEvent_of_mem_entryOps {e : InitEntry} {o : Op} (h : o ∈ entryOps e) : o.isEvent = true := by
  cases e with
  | cmd op ps =>
    rcases List.mem_cons.1 h with rfl | h
    · rfl
    · obtain ⟨b, -, rfl⟩ := List.mem_map.1 h; rfl
  | wait k => obtain rfl := List.mem_singleton.1 h; rfl

theorem isEvent_of_mem_windowOps {c : Config} {x y w h : Half} {o : Op} (ho : o ∈ windowOps c x y w h) :
    o.isEvent = true := by
  revert o; simp [windowOps, rangeOps, Op.isEvent]

/-- The pixels of a colour: one stream check, then data bytes. -/
theorem mem_colorOps {color : Half} {n : Nat} {o : Op} (h : o ∈ colorOps color n) :
    o = .streamCheck n ∨ ∃ b, o = .data b := by
  revert o
  simp only [colorOps, pixelOps, List.mem_cons, List.mem_flatten, List.mem_replicate]
  rintro o (h | ⟨l, ⟨-, rfl⟩, h⟩)
  · exact .inl h
  · rcases List.mem_cons.1 h with h | h
    · exact .inr ⟨_, h⟩
    · exact .inr ⟨_, List.mem_singleton.1 h⟩

theorem isEvent_or_check_of_mem_colorOps {color : Half} {n : Nat} {o : Op} (h : o ∈ colorOps color n) :
    o.isEvent = true ∨ o ∈ [.drawingCheck, .streamCheck n] := by
  rcases mem_colorOps h with rfl | ⟨b, rfl⟩
  · simp
  · exact .inl rfl

/-- Each operation of a sequence is an event or one of the request's checks and register writes. -/
theorem mem_sequenceOf {c : Config} {i : Instr} {o : Op} (h : o ∈ sequenceOf c i) :
    o.isEvent = true ∨ o ∈ stateWrites i := by
  cases i with
  | initialise =>
    rcases List.mem_append.1 h with h | h
    · obtain ⟨e, -, h⟩ := List.mem_flatMap.1 h
      exact .inl (isEvent_of_mem_entryOps h)
    · exact .inr h
  | pushPixels x y w k buf =>
    rcases List.mem_append.1 h with h | h <;> rcases List.mem_cons.1 h with rfl | h
    · simp [stateWrites]
    · exact .inl (isEvent_of_mem_windowOps h)
    · simp [stateWrites]
    · obtain ⟨j, -, h⟩ := List.mem_flatMap.1 h
      rcases List.mem_pair.1 h with rfl | rfl <;> exact .inl rfl
  | setAddrWindow x y w k =>
    rcases List.mem_cons.1 h with rfl | h
    · simp [stateWrites]
    · exact .inl (isEvent_of_mem_windowOps h)
  | writeFillRect x y w k color =>
    rcases List.mem_append.1 h with h | h
    · rcases List.mem_cons.1 h with rfl | h
      · simp [stateWrites]
      · exact .inl (isEvent_of_mem_windowOps h)
    · exact isEvent_or_check_of_mem_colorOps h
  | writePixel color =>
    rcases List.mem_cons.1 h with rfl | h
    · simp [stateWrites]
    · exact isEvent_or_check_of_mem_colorOps h
  | writeColor color count =>
    rcases List.mem_cons.1 h with rfl | h
    · simp [stateWrites]
    · exact isEvent_or_check_of_mem_colorOps h
  | setRotation mode => revert o; simp [sequenceOf, setRotationSeq, stateWrites, Op.isEvent]
  | writeText f a => cases h
  | writeCommand b => obtain rfl := List.mem_singleton.1 h; exact .inl rfl
  | spiWrite b => obtain rfl := List.mem_singleton.1 h; exact .inl rfl
  | setCursor x y => exact .inr h
  | dcInit => exact .inr h
  | dcLow => exact .inr h
  | dcHigh => exact .inr h

theorem setGeometry_mem_sequenceOf {c : Config} {i : Instr} {m : BitVec 2} (h : .setGeometry m ∈ sequenceOf c i) :
    i = .initialise ∨ ∃ mode, i = .setRotation mode := by
  have hw := (mem_sequenceOf h).resolve_left nofun
  cases i <;> simp [stateWrites] at hw ⊢

theorem setInitDone_mem_sequenceOf {c : Config} {i : Instr} (h : .setInitDone ∈ sequenceOf c i) : i = .initialise := by
  have hw := (mem_sequenceOf h).resolve_left nofun
  cases i <;> simp [stateWrites] at hw ⊢

theorem setCursor_mem_sequenceOf {c : Config} {i : Instr} {x y : Half} (h : .setCursor x y ∈ sequenceOf c i) :
    ∃ x y, i = .setCursor x y := by
  have hw := (mem_sequenceOf h).resolve_left nofun
  cases i <;> simp [stateWrites] at hw ⊢

theorem configureDc_mem_sequenceOf {c : Config} {i : Instr} (h : .configureDc ∈ sequenceOf c i) : i = .dcInit := by
  have hw := (mem_sequenceOf h).resolve_left nofun
  cases i <;> simp [stateWrites] at hw ⊢

/-- The writes of the geometry and of `init_done`. -/
def Op.writesRegisters : Op → Bool
  | .setInitDone => true
  | .setGeometry _ => true
  | _ => false

theorem isEvent_eq_false_of_writesRegisters {o : Op} (h : o.writesRegisters = true) : o.isEvent = false := by
  cases o <;> simp_all [Op.writesRegisters, Op.isEvent]

theorem writesRegisters_of_mem_sequenceOf {c : Config} {i : Instr} {o : Op} (h : o ∈ sequenceOf c i)
    (ho : o.writesRegisters = true) : i = .initialise ∨ ∃ mode, i = .setRotation mode := by
  cases o with
  | setInitDone => exact .inl (setInitDone_mem_sequenceOf h)
  | setGeometry m => exact setGeometry_mem_sequenceOf h
  | _ => cases ho

/-- No byte follows a write of the geometry or of `init_done` in a sequence (R101, R119). -/
theorem sequenceOf_registers_last (c : Config) (i : Instr) :
    (sequenceOf c i).Pairwise fun a b => a.writesRegisters = true → b.isByte = false := by
  cases i with
  | initialise =>
    have htable : ∀ a ∈ c.initTable.flatMap entryOps, a.writesRegisters ≠ true := fun a ha hr => by
      obtain ⟨e, -, ha⟩ := List.mem_flatMap.1 ha
      exact absurd (isEvent_of_mem_entryOps ha) (by simp [isEvent_eq_false_of_writesRegisters hr])
    refine List.pairwise_append.2 ⟨?_, by simp [Op.isByte], fun a ha _ _ hr => absurd hr (htable a ha)⟩
    exact List.pairwise_of_forall_mem_list fun a ha _ _ hr => absurd hr (htable a ha)
  | setRotation mode => simp [sequenceOf, setRotationSeq, Op.writesRegisters, Op.isByte]
  | _ =>
    refine List.pairwise_of_forall_mem_list fun a ha _ _ hr => ?_
    simpa using writesRegisters_of_mem_sequenceOf ha hr

/-- A sequence that waits for a byte has written neither the geometry nor `init_done` (R17). -/
theorem writesRegisters_of_mem_before_byte {c : Config} {i : Instr} {pre post : List Op} {o p : Op}
    (h : sequenceOf c i = pre ++ o :: post) (ho : o.isByte = true) (hp : p ∈ pre) : p.writesRegisters = false := by
  have hlast := sequenceOf_registers_last c i
  rw [h, List.pairwise_append] at hlast
  obtain ⟨-, -, hpre⟩ := hlast
  by_contra hw
  simpa [ho] using hpre p hp o List.mem_cons_self (by simpa using hw)

/-! ### What a sequence leaves unchanged -/

/-- The registers each written by one kind of operation only: where no such operation is among `ops`, they are as before
(R25, R27, R28, R122). Before dc_init the level too stays (R85). -/
structure SameRegisters (ops : List Op) (s t : State) : Prop where
  geometry : (∀ m, .setGeometry m ∉ ops) → t.rotation = s.rotation ∧ t.width = s.width ∧ t.height = s.height
  initDone : .setInitDone ∉ ops → t.initDone = s.initDone
  cursor : (∀ x y, .setCursor x y ∉ ops) → t.cursorX = s.cursorX ∧ t.cursorY = s.cursorY
  dcCfg : .configureDc ∉ ops → t.dcCfg = s.dcCfg
  dc : .configureDc ∉ ops → s.dcCfg = false → t.dc = s.dc

theorem SameRegisters.of_panel {s t : State} (h : SamePanel s t) (hd : s.dcCfg = false → t.dc = s.dc) (ops : List Op) :
    SameRegisters ops s t :=
  ⟨fun _ => ⟨h.rotation, h.width, h.height⟩, fun _ => h.initDone, fun _ => ⟨h.cursorX, h.cursorY⟩, fun _ => h.dcCfg,
    fun _ => hd⟩

theorem SameRegisters.append {a b : List Op} {s t u : State} (h : SameRegisters a s t) (g : SameRegisters b t u) :
    SameRegisters (a ++ b) s u := by
  refine ⟨fun hn => ?_, fun hn => ?_, fun hn => ?_, fun hn => ?_, fun hn hc => ?_⟩ <;>
    simp only [List.mem_append, not_or, forall_and] at hn <;> obtain ⟨ha, hb⟩ := hn
  · obtain ⟨hr, hw, hh⟩ := h.geometry ha
    rw [← hr, ← hw, ← hh]; exact g.geometry hb
  · exact (g.initDone hb).trans (h.initDone ha)
  · obtain ⟨hx, hy⟩ := h.cursor ha
    rw [← hx, ← hy]; exact g.cursor hb
  · exact (g.dcCfg hb).trans (h.dcCfg ha)
  · exact (g.dc hb ((h.dcCfg ha).trans hc)).trans (h.dc ha hc)

theorem opWait_dc_of_unconfigured (o : Op) {s : State} (h : s.dcCfg = false) : (opWait o s).dc = s.dc := by
  cases o with
  | elemFirst a => simp only [opWait]; split <;> simp [driveDc_dc, h]
  | elemSecond a => simp only [opWait]; split <;> simp [driveDc_dc, h]
  | _ => simp [opWait, driveDc_dc, h]

theorem opDone_dc_of_unconfigured {o : Op} (ho : o ≠ .configureDc) {s : State} (h : s.dcCfg = false) :
    (opDone o s).dc = s.dc := by
  cases o with
  | configureDc => exact absurd rfl ho
  | elemFirst a => simpa [opDone, sentByte, takeByte] using opWait_dc_of_unconfigured (.elemFirst a) h
  | elemSecond a => simpa [opDone, sentByte, takeByte] using opWait_dc_of_unconfigured (.elemSecond a) h
  | _ => simp [opDone, sentByte, takeByte, waitEvent, driveDc_dc, releaseDc_dc, h]

theorem opWait_sameRegisters (o : Op) (s : State) (ops : List Op) : SameRegisters ops s (opWait o s) :=
  .of_panel (opWait_panel o s) (opWait_dc_of_unconfigured o) ops

theorem opDone_sameRegisters (o : Op) (s : State) : SameRegisters [o] s (opDone o s) := by
  have hdc : .configureDc ∉ [o] → s.dcCfg = false → (opDone o s).dc = s.dc := fun ho =>
    opDone_dc_of_unconfigured fun he => ho (by simp [he])
  cases he : o.isEvent with
  | true => exact .of_panel (opDone_panel he s) (hdc fun ho => by cases List.mem_singleton.1 ho; cases he) [o]
  | false =>
    refine ⟨?_, ?_, ?_, ?_, hdc⟩ <;> cases o <;> simp [Op.isEvent] at he <;> simp [opDone]

theorem opsDone_sameRegisters (ops : List Op) (s : State) : SameRegisters ops s (opsDone ops s) := by
  induction ops generalizing s with
  | nil => exact .of_panel (.refl s) (fun _ => rfl) []
  | cons o rest ih => exact (opDone_sameRegisters o s).append (ih _)

/-- Sending into an open stream through a configured pin: it stays so, and the window is as before. -/
structure InStream (s t : State) : Prop where
  dcCfg : t.dcCfg = true
  isStream : t.proto.isStream = true
  window : t.winSc = s.winSc ∧ t.winEc = s.winEc ∧ t.winSp = s.winSp ∧ t.winEp = s.winEp

/-- R114: a data byte in a stream moves only the count. -/
theorem trackData_inStream (b : Byte) {s t : State} (h : InStream s t) : InStream s (trackData b t) := by
  obtain ⟨hc, hs, hw⟩ := h
  unfold trackData
  split <;> rename_i hp <;> simp only [hp, ProtoState.isStream, Bool.false_eq_true] at hs
  · exact ⟨hc, by rw [hp]; rfl, hw⟩
  · exact ⟨hc, by simp [hp, ProtoState.isStream], hw⟩
  · exact ⟨hc, rfl, hw⟩

theorem opDone_data_inStream (b : Byte) {s t : State} (h : InStream s t) : InStream s (opDone (.data b) t) := by
  obtain ⟨hc, hs, hw⟩ := h
  have hsent : opDone (.data b) t =
      (trackData b (record (.byte .high b) (takeByte (markLevel (driveDc .high t))))).advance := by
    simp [opDone, sentByte, effLevel_driveDc, hc, track]
  have ht : InStream s (record (.byte .high b) (takeByte (markLevel (driveDc .high t)))) :=
    ⟨by simpa [takeByte] using hc, by simpa [takeByte] using hs, by simpa [takeByte] using hw⟩
  obtain ⟨hc', hs', hw'⟩ := trackData_inStream b ht
  rw [hsent]
  exact ⟨hc', hs', hw'⟩

/-- The operations of write_pixel and write_color. -/
def Op.isPixelOp : Op → Bool
  | .drawingCheck => true
  | .streamCheck _ => true
  | .data _ => true
  | _ => false

theorem opDone_inStream {o : Op} (ho : o.isPixelOp = true) {s t : State} (h : InStream s t) : InStream s (opDone o t) := by
  cases o with
  | data b => exact opDone_data_inStream b h
  | drawingCheck => constructor <;> simp [opDone, h.dcCfg, h.isStream, h.window]
  | streamCheck n => constructor <;> simp [opDone, h.dcCfg, h.isStream, h.window]
  | _ => cases ho

theorem opsDone_inStream {ops : List Op} (ho : ∀ o ∈ ops, o.isPixelOp = true) {s t : State} (h : InStream s t) :
    InStream s (opsDone ops t) := by
  induction ops generalizing t with
  | nil => exact h
  | cons o rest ih =>
    rw [List.forall_mem_cons] at ho
    exact ih ho.2 (opDone_inStream ho.1 h)

theorem opWait_window (o : Op) (s : State) : (opWait o s).winSc = s.winSc ∧ (opWait o s).winEc = s.winEc ∧
    (opWait o s).winSp = s.winSp ∧ (opWait o s).winEp = s.winEp := by
  cases o with
  | elemFirst a => simp only [opWait]; split <;> simp
  | elemSecond a => simp only [opWait]; split <;> simp
  | _ => simp [opWait]

/-! ### What a request leaves unchanged -/

/-- Running a sequence writes `req` and none of the other fields outside it (R15, R21, R40). -/
theorem runRequest_base {i : Instr} {ops : List Op} {s t : State} (h : runRequest i ops s = .next t) :
    SameBase { s with req := t.req } t := by
  obtain rfl | ⟨pre, o, -, -, -, rfl⟩ := runRequest_cases h
  · obtain ⟨hc, hf, hr, -, hp, hi, hd, hm⟩ := opsDone_base ops (s.begin i)
    exact ⟨hc, hf, hr, rfl, hp, hi, hd, hm⟩
  · obtain ⟨hc, hf, hr, -, hp, hi, hd, hm⟩ := (opsDone_base pre (s.begin i)).trans (opWait_base o _)
    exact ⟨hc, hf, hr, rfl, hp, hi, hd, hm⟩

/-- A run ends with the registers its operations write, a wait with those the operations before it write (R17). -/
theorem runRequest_sameRegisters {i : Instr} {ops : List Op} {s t : State} (h : runRequest i ops s = .next t) :
    SameRegisters ops s t ∧
      (t.busy = true → ∃ pre o post, ops = pre ++ o :: post ∧ o.isByte = true ∧ SameRegisters pre s t) := by
  obtain rfl | ⟨pre, o, post, hops, ho, rfl⟩ := runRequest_cases h
  · obtain ⟨hg, hn, hx, hc, hd⟩ := opsDone_sameRegisters ops (s.begin i)
    exact ⟨⟨hg, hn, hx, hc, hd⟩, nofun⟩
  · have hpre (rest : List Op) : SameRegisters (pre ++ rest) s (opWait o (opsDone pre (s.begin i))) := by
      obtain ⟨hg, hn, hx, hc, hd⟩ :=
        (opsDone_sameRegisters pre (s.begin i)).append (opWait_sameRegisters o _ rest)
      exact ⟨hg, hn, hx, hc, hd⟩
    exact ⟨hops ▸ hpre (o :: post), fun _ => ⟨pre, o, post, hops, ho, by simpa using hpre []⟩⟩

/-- Pixels sent into an open stream leave the window shadow as it was (R114). -/
theorem runRequest_window {i : Instr} {ops : List Op} {s t : State} (h : runRequest i ops s = .next t)
    (ho : ∀ o ∈ ops, o.isPixelOp = true) (hc : s.dcCfg = true) (hs : s.proto.isStream = true) :
    t.winSc = s.winSc ∧ t.winEc = s.winEc ∧ t.winSp = s.winSp ∧ t.winEp = s.winEp := by
  have hbegin : InStream s (s.begin i) := ⟨hc, hs, rfl, rfl, rfl, rfl⟩
  obtain rfl | ⟨pre, o, post, rfl, -, rfl⟩ := runRequest_cases h
  · exact (opsDone_inStream ho hbegin).window
  · obtain ⟨hsc, hec, hsp, hep⟩ := opWait_window o (opsDone pre (s.begin i))
    rw [hsc, hec, hsp, hep]
    exact (opsDone_inStream (List.forall_mem_append.1 ho).1 hbegin).window

theorem isPixelOp_of_mem_colorOps {color : Half} {n : Nat} {o : Op} (h : o ∈ colorOps color n) : o.isPixelOp = true := by
  rcases mem_colorOps h with rfl | ⟨b, rfl⟩ <;> rfl

section
variable {i : Instr} {s t : State} (h : exec i s = .next t)
include h

theorem exec_base : t.cfg = s.cfg ∧ t.port = s.port ∧ t.input = s.input ∧ t.readData = s.readData ∧ t.mem = s.mem := by
  obtain ⟨f, a, -, rfl⟩ | ⟨x, y, w, k, buf, -, -, rfl⟩ | h := exec_cases h
  · simp
  · simp
  · have hb := runRequest_base h
    exact ⟨hb.cfg, hb.port, hb.input, hb.readData, hb.mem⟩

/-- R147: the one fault a request raises is that of push_pixels on an odd address. -/
theorem exec_fault (hi : ∀ x y w k buf, i = .pushPixels x y w k buf → buf.toNat % 2 = 0) : t.fault = s.fault := by
  obtain ⟨f, a, -, rfl⟩ | ⟨x, y, w, k, buf, rfl, hb, -⟩ | h := exec_cases h
  · simp
  · have heven := hi _ _ _ _ _ rfl
    rw [misaligned_iff] at hb
    omega
  · exact (runRequest_base h).fault

/-- R149: only write_text is refused. -/
theorem exec_refused (hi : ∀ f a, i ≠ .writeText f a) : t.refused = s.refused := by
  obtain ⟨f, a, rfl, -⟩ | ⟨x, y, w, k, buf, -, -, rfl⟩ | h := exec_cases h
  · exact absurd rfl (hi f a)
  · simp
  · exact (runRequest_base h).refused

/-- A request writes the registers its sequence writes. -/
theorem exec_sameRegisters : SameRegisters (sequenceOf s.cfg i) s t := by
  obtain ⟨f, a, -, rfl⟩ | ⟨x, y, w, k, buf, -, -, rfl⟩ | h := exec_cases h
  · exact ⟨fun _ => ⟨rfl, rfl, rfl⟩, fun _ => rfl, fun _ => ⟨rfl, rfl⟩, fun _ => rfl, fun _ _ => rfl⟩
  · exact ⟨fun _ => ⟨rfl, rfl, rfl⟩, fun _ => rfl, fun _ => ⟨rfl, rfl⟩, fun _ => rfl, fun _ _ => rfl⟩
  · exact (runRequest_sameRegisters h).1

/-- A request that waits has written neither the geometry nor `init_done` (R17, R27, R122). -/
theorem exec_registers_of_busy (hb : t.busy = true) :
    t.rotation = s.rotation ∧ t.width = s.width ∧ t.height = s.height ∧ t.initDone = s.initDone := by
  obtain ⟨f, a, -, rfl⟩ | ⟨x, y, w, k, buf, -, -, rfl⟩ | h := exec_cases h
  · cases hb
  · cases hb
  · obtain ⟨pre, o, post, hops, ho, hr⟩ := (runRequest_sameRegisters h).2 hb
    have hunwritten (p : Op) (hp : p ∈ pre) : p.writesRegisters = false :=
      writesRegisters_of_mem_before_byte hops ho hp
    obtain ⟨hrot, hw, hh⟩ := hr.geometry fun m hm => nomatch hunwritten _ hm
    exact ⟨hrot, hw, hh, hr.initDone fun hn => nomatch hunwritten _ hn⟩

/-- R122: only set_rotation and initialize write the geometry. -/
theorem exec_geometry (hi : i ≠ .initialise) (hm : ∀ m, i ≠ .setRotation m) :
    t.rotation = s.rotation ∧ t.width = s.width ∧ t.height = s.height :=
  (exec_sameRegisters h).geometry fun _ hmem =>
    (setGeometry_mem_sequenceOf hmem).elim hi fun ⟨mode, he⟩ => hm mode he

theorem exec_initDone (hi : i ≠ .initialise) : t.initDone = s.initDone :=
  (exec_sameRegisters h).initDone fun hmem => hi (setInitDone_mem_sequenceOf hmem)

theorem exec_cursor (hi : ∀ x y, i ≠ .setCursor x y) : t.cursorX = s.cursorX ∧ t.cursorY = s.cursorY :=
  (exec_sameRegisters h).cursor fun _ _ hmem =>
    let ⟨x, y, he⟩ := setCursor_mem_sequenceOf hmem
    hi x y he

theorem exec_dcCfg (hi : i ≠ .dcInit) : t.dcCfg = s.dcCfg ∧ (s.dcCfg = false → t.dc = s.dc) :=
  have hmem : .configureDc ∉ sequenceOf s.cfg i := fun hmem => hi (configureDc_mem_sequenceOf hmem)
  ⟨(exec_sameRegisters h).dcCfg hmem, (exec_sameRegisters h).dc hmem⟩

theorem exec_pixels_window (hi : (∃ c, i = .writePixel c) ∨ ∃ c n, i = .writeColor c n) (hc : s.dcCfg = true)
    (hs : s.proto.isStream = true) :
    t.winSc = s.winSc ∧ t.winEc = s.winEc ∧ t.winSp = s.winSp ∧ t.winEp = s.winEp := by
  have hops (color : Half) (n : Nat) : ∀ o ∈ .drawingCheck :: colorOps color n, o.isPixelOp = true :=
    List.forall_mem_cons.2 ⟨rfl, fun _ => isPixelOp_of_mem_colorOps⟩
  obtain ⟨c, rfl⟩ | ⟨c, n, rfl⟩ := hi
  · exact runRequest_window h (hops c 1) hc hs
  · exact runRequest_window h (hops c n.toNat) hc hs

end

/-- R94: the raw byte leaves the level, whether or not the transport takes it. -/
theorem exec_spiWrite_dc {b : Byte} {s t : State} (h : exec (.spiWrite b) s = .next t) : t.dc = s.dc := by
  obtain rfl | ⟨pre, o, post, hops, -, rfl⟩ := runRequest_cases h
  · simp [spiWriteSeq, opDone, sentByte, takeByte]
  · cases pre with
    | nil => cases hops; simp [opWait]
    | cons p rest => simp [spiWriteSeq] at hops

/-- The requests that do not move a level (R94, R96 law 4, R129). -/
theorem exec_dc {i : Instr} {s t : State} (h : exec i s = .next t)
    (hi : (∃ x y, i = .setCursor x y) ∨ (∃ f a, i = .writeText f a) ∨ (∃ b, i = .spiWrite b) ∨ ∃ c, i = .writeColor c 0) :
    t.dc = s.dc := by
  obtain ⟨x, y, rfl⟩ | ⟨f, a, rfl⟩ | ⟨b, rfl⟩ | ⟨c, rfl⟩ := hi
  · cases h; rfl
  · cases h; rfl
  · exact exec_spiWrite_dc h
  · cases h; simp

theorem exec_viol {i : Instr} {s t : State} (h : exec i s = .next t)
    (hi : (∃ x y, i = .setCursor x y) ∨ (∃ f a, i = .writeText f a) ∨ i = .dcInit) : t.viol = s.viol := by
  obtain ⟨x, y, rfl⟩ | ⟨f, a, rfl⟩ | rfl := hi <;> cases h <;> rfl

/-- The requests that send no byte leave the trace, the tracker and the transport. -/
theorem exec_silent {i : Instr} {s t : State} (h : exec i s = .next t)
    (hi : (∃ x y, i = .setCursor x y) ∨ (∃ f a, i = .writeText f a) ∨ i = .dcInit ∨ i = .dcLow ∨ i = .dcHigh) :
    t.trace = s.trace ∧ t.proto = s.proto ∧ t.winSc = s.winSc ∧ t.winEc = s.winEc ∧ t.winSp = s.winSp ∧
      t.winEp = s.winEp ∧ t.accepts = s.accepts := by
  obtain ⟨x, y, rfl⟩ | ⟨f, a, rfl⟩ | rfl | rfl | rfl := hi <;> cases h <;> simp

/-- Settles O49: each clause is the frame of one group of fields. -/
theorem requestsLeaveEverythingElseUnchanged : Obligations.RequestsLeaveEverythingElseUnchanged := by
  intro i s t h
  obtain ⟨hcfg, hport, hinput, hread, hmem⟩ := exec_base h
  exact ⟨⟨hcfg, hport, hinput, hread, hmem, fun a => by rw [hmem]⟩, exec_geometry h, exec_initDone h, exec_registers_of_busy h,
    exec_dc h, exec_viol h, exec_cursor h, exec_dcCfg h, exec_pixels_window h, exec_fault h, exec_refused h,
    exec_silent h⟩

end Sys2Proof.Machine
end

section
/-! What a step can do, said once: a request runs from its position to its end or to the byte it waits for, and a step is
such a run, a fault, a refusal, a served read, a wait for words or power-on reset. From it, what no step takes away (R15,
R21, R27, R33 to R36) and when `init_done` is set (R27, R99). -/

namespace Sys2Proof.Machine

/-! ### What is left of a sequence -/

@[simp] theorem afterEvents_zero (ops : List Op) : afterEvents 0 ops = ops := by simp [afterEvents]

theorem afterEvents_suffix (k : Nat) (ops : List Op) : afterEvents k ops <:+ ops := by
  induction ops generalizing k with
  | nil => cases k <;> simp [afterEvents]
  | cons o rest ih =>
    cases k with
    | zero => simp
    | succ k =>
      rw [afterEvents]
      split <;> exact (ih _).trans (List.suffix_cons o rest)

theorem eventCount_append (a b : List Op) : eventCount (a ++ b) = eventCount a + eventCount b := by
  simp [eventCount]

theorem afterEvents_append {k : Nat} {a : List Op} (h : k ≤ eventCount a) (b : List Op) :
    afterEvents k (a ++ b) = afterEvents k a ++ b := by
  induction a generalizing k with
  | nil =>
    obtain rfl : k = 0 := Nat.le_zero.1 h
    simp
  | cons o rest ih =>
    cases k with
    | zero => simp
    | succ k =>
      rw [eventCount_cons] at h
      cases ho : o.isEvent <;> simp only [ho, Bool.false_eq_true, if_false, if_true] at h <;>
        simp only [List.cons_append, afterEvents, ho, Bool.false_eq_true, if_false, if_true] <;> exact ih (by omega)

theorem eventCount_afterEvents {k : Nat} {ops : List Op} (h : k ≤ eventCount ops) :
    k + eventCount (afterEvents k ops) = eventCount ops := by
  induction ops generalizing k with
  | nil =>
    obtain rfl : k = 0 := Nat.le_zero.1 h
    simp
  | cons o rest ih =>
    cases k with
    | zero => simp
    | succ k =>
      rw [eventCount_cons] at h ⊢
      cases ho : o.isEvent <;> simp only [ho, Bool.false_eq_true, if_false, if_true] at h ⊢ <;>
        simp only [afterEvents, ho, Bool.false_eq_true, if_false, if_true]
      · have := ih (k := k + 1) (by omega)
        omega
      · have := ih (k := k) (by omega)
        omega

/-! ### The run of a request -/

/-- What is left of a request's sequence at the position a state stands at (R32). -/
def remaining (i : Instr) (u : State) : List Op := afterEvents u.stepIdx (sequenceOf u.cfg i)

/-- A request in flight at `u` has run to `t`: to its end, or to the byte it waits for (R165). -/
inductive RunsTo (i : Instr) (u : State) : State → Prop
  | ends : RunsTo i u (opsDone (remaining i u) u).idle
  | waits (pre : List Op) (o : Op) (post : List Op) (hops : remaining i u = pre ++ o :: post) (ho : o.isByte = true) :
    RunsTo i u (opWait o (opsDone pre u))

theorem RunsTo.of_runRequest {i : Instr} {s t : State} (h : runRequest i (sequenceOf s.cfg i) s = .next t) :
    RunsTo i (s.begin i) t := by
  have hrem : remaining i (s.begin i) = sequenceOf s.cfg i := afterEvents_zero _
  obtain rfl | ⟨pre, o, post, hops, ho, rfl⟩ := runRequest_cases h
  · rw [← hrem]; exact .ends
  · exact .waits pre o post (hrem.trans hops) ho

theorem RunsTo.of_resume {i : Instr} {s t : State} (h : resume i s = .next t) : RunsTo i s t := by
  obtain rfl | ⟨⟨pre, o, post, hops, ho, rfl⟩, -⟩ := resumeOps_cases h
  · exact .ends
  · exact .waits pre o post hops ho

/-- What a request waiting for a byte has run before it wrote no panel register (R17). -/
theorem writesRegisters_of_mem_before_wait {i : Instr} {u : State} {pre post : List Op} {o p : Op}
    (h : remaining i u = pre ++ o :: post) (ho : o.isByte = true) (hp : p ∈ pre) : p.writesRegisters = false := by
  obtain ⟨before, hb⟩ := afterEvents_suffix u.stepIdx (sequenceOf u.cfg i)
  rw [remaining] at h
  rw [h, ← List.append_assoc] at hb
  exact writesRegisters_of_mem_before_byte hb.symm ho (List.mem_append_right before hp)

/-- From any position inside it, initialize still owes its register writes (R99, R101). -/
theorem remaining_initialise {u : State} (h : u.stepIdx ≤ eventCount (sequenceOf u.cfg .initialise)) :
    ∃ table, remaining .initialise u = table ++ [.setInitDone, .setGeometry 0] := by
  refine ⟨_, afterEvents_append ?_ _⟩
  simpa [sequenceOf, initialiseSeq, eventCount_append, eventCount, Op.isEvent] using h

/-- The registers initialize leaves when it ends (R101). -/
theorem opsDone_remaining_initialise {u : State} (h : u.stepIdx ≤ eventCount (sequenceOf u.cfg .initialise)) :
    (opsDone (remaining .initialise u) u).initDone = true ∧
      (opsDone (remaining .initialise u) u).rotation = some 0 := by
  obtain ⟨table, ht⟩ := remaining_initialise h
  simp [ht, opsDone_append, opDone]

/-- A request that waits is in flight (R37, R165). -/
theorem busy_of_wait {i : Instr} {u : State} (h : u.req = some i) (pre : List Op) (o : Op) :
    (opWait o (opsDone pre u)).busy = true := by
  rw [State.busy, ((opsDone_base pre u).trans (opWait_base o _)).req, h]; rfl

theorem setInitDone_mem_remaining {i : Instr} {u : State} (h : .setInitDone ∈ remaining i u) : i = .initialise :=
  setInitDone_mem_sequenceOf ((afterEvents_suffix _ _).mem h)

section
variable {i : Instr} {u t : State} (h : RunsTo i u t)
include h

theorem RunsTo.base : SameBase { u with req := t.req } t := by
  cases h with
  | ends =>
    obtain ⟨hc, hf, hr, -, hp, hi, hd, hm⟩ := opsDone_base (remaining i u) u
    exact ⟨hc, hf, hr, rfl, hp, hi, hd, hm⟩
  | waits pre o =>
    obtain ⟨hc, hf, hr, -, hp, hi, hd, hm⟩ := (opsDone_base pre u).trans (opWait_base o _)
    exact ⟨hc, hf, hr, rfl, hp, hi, hd, hm⟩

/-- The trace is append-only (R36). -/
theorem RunsTo.trace : u.trace <+: t.trace := by
  cases h with
  | ends =>
    obtain ⟨evs, he⟩ := opsDone_trace (remaining i u) u
    exact ⟨evs, he.symm⟩
  | waits pre o =>
    obtain ⟨evs, he⟩ := opsDone_trace pre u
    exact ⟨evs, by rw [opWait_trace, he]⟩

/-- A request that ends has run what was left of its sequence. -/
theorem RunsTo.eq_of_idle (hreq : u.req = some i) (hb : t.busy = false) : t = (opsDone (remaining i u) u).idle := by
  cases h with
  | ends => rfl
  | waits pre o => rw [busy_of_wait hreq pre o] at hb; cases hb

/-- A request sets `init_done` when it is initialize and ends, and else leaves it (R27, R99). -/
theorem RunsTo.initDone (hreq : u.req = some i) (hpos : u.stepIdx ≤ eventCount (sequenceOf u.cfg i)) :
    t.initDone = (u.initDone || (decide (i = .initialise) && !t.busy)) := by
  cases h with
  | ends =>
    by_cases hi : i = .initialise
    · subst hi
      simp [(opsDone_remaining_initialise hpos).1, State.busy]
    · have := (opsDone_sameRegisters (remaining i u) u).initDone fun hm => hi (setInitDone_mem_remaining hm)
      simp [this, hi]
  | waits pre o post hops ho =>
    have hkeep := (opsDone_sameRegisters pre u).initDone fun hm => nomatch writesRegisters_of_mem_before_wait hops ho hm
    rw [(opWait_panel o _).initDone, hkeep, busy_of_wait hreq pre o]
    simp

end

/-! ### A byte event in three parts -/

/-- The level at which a byte event is sent (R86 to R89). -/
def byteLevel (o : Op) (s : State) : DcLevel :=
  match o with
  | .command _ => effLevel (driveDc .low s)
  | .raw _ => effLevel s
  | _ => effLevel (driveDc .high s)

/-- What follows an accepted byte: a command releases the level, the second byte of an element is done with it (R87). -/
def afterByte (o : Op) (s : State) : State :=
  match o with
  | .command _ => releaseDc s
  | .elemSecond _ => { s with elem := none }
  | _ => s

theorem opDone_of_isByte {o : Op} (h : o.isByte = true) (s : State) :
    opDone o s = afterByte o (sentByte (byteLevel o s) (opByte o s) (opWait o s)) := by
  cases o with
  | command b | data b | raw b | elemFirst a | elemSecond a => rfl
  | _ => cases h

/-- Before dc_init every byte is sent at the level Undef (R86). -/
theorem byteLevel_of_unconfigured (o : Op) {s : State} (h : s.dcCfg = false) : byteLevel o s = .undef := by
  cases o <;> simp [byteLevel, effLevel, h]

/-! ### Marks and flags only grow (R27, R28, R33) -/

/-- Nothing sticky is lost: a mark, `init_done`, `dc_cfg`. -/
structure Sticky (s t : State) : Prop where
  viol : ∀ v, s.viol.has v = true → t.viol.has v = true
  initDone : s.initDone = true → t.initDone = true
  dcCfg : s.dcCfg = true → t.dcCfg = true

theorem Sticky.refl (s : State) : Sticky s s := ⟨fun _ => id, id, id⟩

theorem Sticky.trans {s t u : State} (h : Sticky s t) (g : Sticky t u) : Sticky s u :=
  ⟨fun v hv => g.viol v (h.viol v hv), fun hi => g.initDone (h.initDone hi), fun hc => g.dcCfg (h.dcCfg hc)⟩

theorem markIf_sticky (s : State) (p : Bool) (v : Violation) : Sticky s (s.markIf p v) :=
  ⟨fun _ => markIf_keeps p v, by simp, by simp⟩

theorem driveDc_sticky (l : DcLevel) (s : State) : Sticky s (driveDc l s) := by
  unfold driveDc
  split
  · exact ⟨fun _ => id, id, id⟩
  · exact markIf_sticky s true _

theorem markLevel_sticky (s : State) : Sticky s (markLevel s) := (markIf_sticky s _ _).trans (markIf_sticky _ _ _)

theorem opWait_sticky (o : Op) (s : State) : Sticky s (opWait o s) := by
  have hdrive (l : DcLevel) (u : State) : Sticky u (markLevel (driveDc l u)) :=
    (driveDc_sticky l u).trans (markLevel_sticky _)
  cases o with
  | command b => exact hdrive .low s
  | data b => exact hdrive .high s
  | raw b => exact markLevel_sticky s
  | elemFirst a | elemSecond a =>
    simp only [opWait]
    split
    · rename_i v _
      obtain ⟨hv, hi, hc⟩ := hdrive .high { s with elem := some v }
      exact ⟨hv, hi, hc⟩
    · exact .refl s
  | _ => exact .refl s

theorem sentByte_sticky (lvl : DcLevel) (b : Byte) (s : State) : Sticky s (sentByte lvl b s) :=
  ⟨fun _ hv => track_keeps lvl b hv, by simp [sentByte, takeByte], by simp [sentByte, takeByte]⟩

theorem afterByte_sticky (o : Op) (s : State) : Sticky s (afterByte o s) := by
  cases o <;> constructor <;> simp [afterByte]

theorem opDone_sticky (o : Op) (s : State) : Sticky s (opDone o s) := by
  cases hb : o.isByte with
  | true =>
    rw [opDone_of_isByte hb]
    exact ((opWait_sticky o s).trans (sentByte_sticky _ _ _)).trans (afterByte_sticky o _)
  | false =>
    cases o with
    | driveDc l => exact driveDc_sticky l s
    | drawingCheck | streamCheck n => exact markIf_sticky s _ _
    | command b | data b | raw b | elemFirst a | elemSecond a => cases hb
    | _ => constructor <;> simp [opDone, waitEvent]

theorem opsDone_sticky (ops : List Op) (s : State) : Sticky s (opsDone ops s) := by
  induction ops generalizing s with
  | nil => exact .refl s
  | cons o rest ih => exact (opDone_sticky o s).trans (ih _)

theorem RunsTo.sticky {i : Instr} {u t : State} (h : RunsTo i u t) : Sticky u t := by
  cases h with
  | ends =>
    obtain ⟨hv, hi, hc⟩ := opsDone_sticky (remaining i u) u
    exact ⟨hv, hi, hc⟩
  | waits pre o => exact (opsDone_sticky pre u).trans (opWait_sticky o _)

/-! ### What a step can do -/

/-- Everything serving a status read can do: it answers or leaves a recorded fault alone, or it raises its own (R39). -/
theorem serveRead_cases (num : Byte) (s : State) :
    (∃ d, serveRead num s = { s with input := none, readData := d }) ∨
      s.fault = none ∧ ∃ f, serveRead num s = raise f (num.setWidth 32) { s with input := none, readData := none } := by
  unfold serveRead
  split
  · exact .inl ⟨_, rfl⟩
  all_goals
    unfold raiseIfNone
    split
    · exact .inl ⟨_, rfl⟩
    · rename_i hf
      exact .inr ⟨hf, _, rfl⟩

/-- Everything a request can do where it answers a next state. -/
theorem exec_runs {i : Instr} {s t : State} (h : exec i s = .next t) :
    t = refuse .writeTextOutOfScope s ∨ (∃ buf, t = raise .bufferMisaligned buf s) ∨ RunsTo i (s.begin i) t := by
  obtain ⟨-, -, -, rfl⟩ | ⟨-, -, -, -, buf, -, -, rfl⟩ | h := exec_cases h
  · exact .inl rfl
  · exact .inr (.inl ⟨buf, rfl⟩)
  · exact .inr (.inr (.of_runRequest h))

/-- What a step of the block does where it answers a next state, with its input out of the way (R63, R146, R149, R165). -/
inductive ProceedsTo (s : State) : State → Prop
  | idles : ProceedsTo s s
  | refuses (w : RefusalCode) (n : Nat) : ProceedsTo s (refuse w (consumeWords n s))
  | faults (f : FaultCode) (info : Word) (n : Nat) : ProceedsTo s (raise f info (consumeWords n s))
  | accepts (i : Instr) (n : Nat) {t : State} (h : RunsTo i ((consumeWords n s).begin i) t) : ProceedsTo s t
  | goesOn (i : Instr) {t : State} (hreq : s.req = some i) (h : RunsTo i s t) : ProceedsTo s t

theorem proceed_cases {s t : State} (h : proceed s = .next t) :
    s.fault = none ∧ s.refused = none ∧ ProceedsTo s t := by
  unfold proceed at h
  split at h
  · cases h
  · cases h
  · rename_i hf hr hreq
    exact ⟨hf, hr, .goesOn _ hreq (.of_resume h)⟩
  · rename_i hf hr hreq
    refine ⟨hf, hr, ?_⟩
    unfold acceptRequest at h
    split at h
    · cases h; exact .faults _ _ _
    · cases h; exact .idles
    · obtain rfl | ⟨buf, rfl⟩ | h := exec_runs h
      · exact .refuses _ _
      · exact .faults _ _ _
      · exact .accepts _ _ h

/-- Everything a step can do where it answers a next state. -/
theorem step_cases {s t : State} (h : step s = .next t) :
    (s.input = some .powerOn ∧ t = powerOnReset s) ∨
    (∃ num, s.req = none ∧ t = serveRead num s) ∨
    (s.fault = none ∧ s.refused = none ∧ ProceedsTo s t) := by
  unfold step stepWith at h
  split at h
  · rename_i hin
    cases h
    exact .inl ⟨hin, rfl⟩
  · split at h
    · exact .inr (.inr (proceed_cases h))
    · rename_i num _ hb
      cases h
      exact .inr (.inl ⟨num, by simpa [State.busy] using hb, rfl⟩)
  · exact .inr (.inr (proceed_cases h))

/-! ### The obligations -/

/-- What a step that is no power-on reset keeps (R15, R21, R27, R28, R33 to R36). -/
structure KeepsHistory (s t : State) : Prop extends Sticky s t where
  trace : s.trace <+: t.trace
  fault : ∀ f, s.fault = some f → t.fault = some f
  refused : ∀ r, s.refused = some r → t.refused = some r
  cfg : t.cfg = s.cfg
  mem : t.mem = s.mem

theorem RunsTo.keepsHistory {i : Instr} {u t : State} (h : RunsTo i u t) : KeepsHistory u t := by
  have hb := h.base
  exact ⟨h.sticky, h.trace, fun f hf => hb.fault.trans hf, fun r hr => hb.refused.trans hr, hb.cfg, hb.mem⟩

theorem serveRead_keepsHistory (num : Byte) (s : State) : KeepsHistory s (serveRead num s) := by
  obtain ⟨d, h⟩ | ⟨hf, f, h⟩ := serveRead_cases num s <;> rw [h]
  · exact ⟨⟨fun _ => id, id, id⟩, List.prefix_rfl, fun _ => id, fun _ => id, rfl, rfl⟩
  · exact ⟨⟨fun _ => id, id, id⟩, List.prefix_rfl, fun g hg => (nomatch hf.symm.trans hg), fun _ => id, rfl, rfl⟩

theorem proceed_keepsHistory {s t : State} (hf : s.fault = none) (hr : s.refused = none) (h : ProceedsTo s t) :
    KeepsHistory s t := by
  cases h with
  | idles => exact ⟨.refl s, List.prefix_rfl, fun _ => id, fun _ => id, rfl, rfl⟩
  | refuses w n =>
    exact ⟨⟨fun _ => id, id, id⟩, List.prefix_rfl, fun _ => id, fun r h => (nomatch hr.symm.trans h), rfl, rfl⟩
  | faults f info n =>
    exact ⟨⟨fun _ => id, id, id⟩, List.prefix_rfl, fun f h => (nomatch hf.symm.trans h), fun _ => id, rfl, rfl⟩
  | accepts i n h =>
    obtain ⟨⟨hv, hi, hc⟩, ht, hf, hr, hcfg, hm⟩ := h.keepsHistory
    exact ⟨⟨hv, hi, hc⟩, ht, hf, hr, hcfg, hm⟩
  | goesOn i hreq h => exact h.keepsHistory

/-- Settles O55: each kind of step but power-on reset keeps the history. -/
theorem historyOnlyGrowsUntilPowerOnReset : Obligations.HistoryOnlyGrowsUntilPowerOnReset := by
  intro s t h hin
  have hk : KeepsHistory s t := by
    obtain ⟨hp, -⟩ | ⟨num, -, rfl⟩ | ⟨hf, hr, h⟩ := step_cases h
    · exact absurd hp hin
    · exact serveRead_keepsHistory num s
    · exact proceed_keepsHistory hf hr h
  exact ⟨hk.trace, hk.viol, hk.fault, hk.refused, hk.initDone, hk.dcCfg, hk.cfg, fun a => by rw [hk.mem]⟩

/-- Settles O23: a request in flight runs from a position inside its sequence, and one just accepted from position 0. -/
theorem initDoneIsSetOnlyByACompletedInitialize : Obligations.InitDoneIsSetOnlyByACompletedInitialize := by
  refine ⟨fun i s t h => ?_, fun i s t hinv hreq h => ?_⟩
  · obtain ⟨f, a, rfl, rfl⟩ | ⟨x, y, w, k, buf, rfl, -, rfl⟩ | h := exec_cases h
    · simp
    · simp
    · exact (RunsTo.of_runRequest h).initDone rfl (Nat.zero_le _)
  · have hpos := hinv.position
    rw [PositionOk, hreq] at hpos
    exact (RunsTo.of_resume h).initDone hreq hpos.le

end Sys2Proof.Machine
end

section
/-! The invariant (R23, R24, R30 to R32, R85, R107, R146): the tracker keeps its part of it byte by byte, a run of a request
keeps it operation by operation, and so does every step. -/

namespace Sys2Proof.Machine

/-! ### The tracker -/

/-- The part of the invariant that every single operation keeps. -/
structure PanelInv (s : State) : Prop where
  geometry : GeometryOk s
  proto : ProtoOk s
  window : WindowOk s
  unconfigured : UnconfiguredOk s

/-- R23: in every rotation the panel has 240 * 320 pixels. -/
theorem rotationWidth_mul_rotationHeight (m : BitVec 2) :
    (rotationWidth m).toNat * (rotationHeight m).toNat = Config.physW.toNat * Config.physH.toNat := by
  revert m; decide

/-- R110: a counted stream owes at most the bytes of the whole panel. -/
theorem openCount_le {s : State} (hg : GeometryOk s) {n : Nat} (h : openCount s = some n) :
    n ≤ 2 * Config.physW.toNat * Config.physH.toNat := by
  unfold openCount at h
  split at h
  · rename_i sc ec sp ep w k _ _ _ _ hw hk
    obtain ⟨-, hw0, -⟩ | ⟨m, -, hwm, hkm⟩ := hg
    · cases hw.symm.trans hw0
    · cases hw.symm.trans hwm
      cases hk.symm.trans hkm
      split at h
      · rename_i hfit
        cases h
        rw [Nat.mul_assoc, Nat.mul_assoc, ← rotationWidth_mul_rotationHeight m]
        exact Nat.mul_le_mul_left 2 (Nat.mul_le_mul (by omega) (by omega))
      · cases h
  · cases h

theorem openContext_proto (b : Byte) {s : State} (hg : GeometryOk s) : ProtoOk (openContext b s) := by
  unfold openContext
  split
  · cases h : openCount s with
    | none => simp [ProtoOk, openStream, h]
    | some n => simpa [ProtoOk, openStream, h] using openCount_le hg h
  · split <;> simp [ProtoOk]

theorem latchRange_context (op : Byte) (acc : List Byte) (s : State) :
    (latchRange op acc s).proto = s.proto ∧ (latchRange op acc s).cfg = s.cfg := by
  unfold latchRange setRange
  split
  · split <;> exact ⟨rfl, rfl⟩
  · exact ⟨rfl, rfl⟩

theorem captureParam_proto {op b : Byte} {acc : List Byte} {s : State} (hop : isWindowCmd s.cfg op = true)
    (hp : s.proto = .param op acc) (h : acc.length ≤ 4) : ProtoOk (captureParam op acc b s) := by
  unfold captureParam
  split
  · obtain ⟨hproto, hcfg⟩ := latchRange_context op (acc ++ [b]) { s with proto := .param op (acc ++ [b]) }
    rw [ProtoOk, hproto, hcfg]
    simp [hop]
    omega
  · simp [ProtoOk, hp, hop, h]

/-- R111 to R114: a data byte keeps the context well-formed. -/
theorem trackData_proto (b : Byte) {s : State} (h : ProtoOk s) : ProtoOk (trackData b s) := by
  unfold trackData
  split <;> rename_i hp
  · simp [ProtoOk, hp]
  · split
    · rename_i hop
      exact captureParam_proto hop hp (by simpa [ProtoOk, hp, hop] using h)
    · exact h
  · exact h
  · simp [ProtoOk, hp]
  · simp only [ProtoOk, hp] at h ⊢
    omega

theorem forgetRange_window (op : Byte) {s : State} (h : WindowOk s) : WindowOk (forgetRange op s) := by
  unfold forgetRange
  split
  · exact ⟨rfl, h.2⟩
  · exact ⟨h.1, rfl⟩

theorem closeContext_window {s : State} (h : WindowOk s) : WindowOk (closeContext s) := by
  unfold closeContext
  split
  · exact h
  · split
    · exact forgetRange_window _ h
    · exact h
  · exact h
  · simpa [WindowOk] using h

theorem openContext_window (b : Byte) {s : State} (h : WindowOk s) : WindowOk (openContext b s) := by
  unfold openContext
  split
  · simpa [WindowOk, openStream] using h
  · split
    · exact ⟨rfl, rfl⟩
    · exact h

theorem latchRange_window (op : Byte) (acc : List Byte) {s : State} (h : WindowOk s) :
    WindowOk (latchRange op acc s) := by
  unfold latchRange setRange
  split
  · split
    · exact ⟨rfl, h.2⟩
    · exact ⟨h.1, rfl⟩
  · exact h

theorem trackData_window (b : Byte) {s : State} (h : WindowOk s) : WindowOk (trackData b s) := by
  unfold trackData
  split
  · exact h
  · unfold captureParam
    split
    · split
      · exact latchRange_window _ _ h
      · exact h
    · exact h
  · exact h
  · exact h
  · exact h

theorem GeometryOk.of_eq {s t : State} (h : GeometryOk s) (hr : t.rotation = s.rotation) (hw : t.width = s.width)
    (hh : t.height = s.height) : GeometryOk t := by
  rwa [GeometryOk, hr, hw, hh]

/-- Every byte the tracker sees keeps the invariant, given that before dc_init it sees bytes at Undef only (R86, R106). -/
theorem track_panelInv {lvl : DcLevel} (b : Byte) {s : State} (h : PanelInv s)
    (hl : s.dcCfg = false → lvl = .undef) : PanelInv (track lvl b s) := by
  obtain ⟨hg, hp, hw, hu⟩ := h
  refine ⟨hg.of_eq (by simp) (by simp) (by simp), ?_, ?_, fun hc => ?_⟩
  · cases lvl with
    | low =>
      obtain ⟨_, _, _, _, _, _, hs⟩ := closeContext_shape s
      exact openContext_proto b (by rw [hs]; exact hg)
    | high => exact trackData_proto b hp
    | undef => exact trivial
  · cases lvl with
    | low => exact openContext_window b (closeContext_window hw)
    | high => exact trackData_window b hw
    | undef => exact ⟨rfl, rfl⟩
  · rw [track_dcCfg] at hc
    obtain rfl := hl hc
    exact ⟨(hu hc).1, rfl, rfl, rfl⟩

/-! ### Operations and runs -/

theorem opWait_proto (o : Op) (s : State) : (opWait o s).proto = s.proto := by
  cases o with
  | elemFirst a | elemSecond a => simp only [opWait]; split <;> simp
  | _ => simp [opWait]

theorem opWait_panelInv (o : Op) {s : State} (h : PanelInv s) : PanelInv (opWait o s) := by
  obtain ⟨hg, hp, hw, hu⟩ := h
  have hpanel := opWait_panel o s
  obtain ⟨hsc, hec, hsp, hep⟩ := opWait_window o s
  refine ⟨hg.of_eq hpanel.rotation hpanel.width hpanel.height, ?_, ?_, fun hc => ?_⟩
  · rwa [ProtoOk, opWait_proto, (opWait_base o s).cfg]
  · rwa [WindowOk, hsc, hec, hsp, hep]
  · rw [hpanel.dcCfg] at hc
    rw [opWait_dc_of_unconfigured o hc, opWait_proto, hsc, hsp]
    exact hu hc

theorem sentByte_panelInv {lvl : DcLevel} (b : Byte) {s : State} (h : PanelInv s)
    (hl : s.dcCfg = false → lvl = .undef) : PanelInv (sentByte lvl b s) := by
  obtain ⟨hg, hp, hw, hu⟩ := track_panelInv b (s := record (.byte lvl b) (takeByte s)) (lvl := lvl)
    ⟨h.geometry, h.proto, h.window, h.unconfigured⟩ hl
  exact ⟨hg, hp, hw, hu⟩

theorem markIf_panelInv (p : Bool) (v : Violation) {s : State} (h : PanelInv s) : PanelInv (s.markIf p v) := by
  obtain ⟨hg, hp, hw, hu⟩ := h
  unfold State.markIf
  split <;> exact ⟨hg, hp, hw, hu⟩

theorem afterByte_panelInv (o : Op) {s : State} (h : PanelInv s) : PanelInv (afterByte o s) := by
  obtain ⟨hg, hp, hw, hu⟩ := h
  cases o with
  | command b =>
    unfold afterByte releaseDc
    dsimp only
    split
    · rename_i hc
      exact ⟨hg, hp, hw, fun h0 => (nomatch hc.symm.trans h0)⟩
    · exact ⟨hg, hp, hw, hu⟩
  | _ => exact ⟨hg, hp, hw, hu⟩

theorem opDone_panelInv (o : Op) {s : State} (h : PanelInv s) : PanelInv (opDone o s) := by
  cases hb : o.isByte with
  | true =>
    rw [opDone_of_isByte hb]
    refine afterByte_panelInv o (sentByte_panelInv _ (opWait_panelInv o h) fun hc => ?_)
    exact byteLevel_of_unconfigured o ((opWait_panel o s).dcCfg.symm.trans hc)
  | false =>
    have hinv := h
    obtain ⟨hg, hp, hw, hu⟩ := h
    cases o with
    | configureDc => exact ⟨hg, hp, hw, nofun⟩
    | setGeometry m => exact ⟨.inr ⟨m, rfl, rfl, rfl⟩, hp, hw, hu⟩
    | driveDc l =>
      unfold opDone driveDc
      dsimp only
      split
      · rename_i hc
        exact ⟨hg, hp, hw, fun h0 => (nomatch hc.symm.trans h0)⟩
      · exact ⟨hg, hp, hw, hu⟩
    | drawingCheck | streamCheck n => exact markIf_panelInv _ _ hinv
    | wait k | setCursor x y | setInitDone => exact ⟨hg, hp, hw, hu⟩
    | _ => cases hb

theorem opsDone_panelInv (ops : List Op) {s : State} (h : PanelInv s) : PanelInv (opsDone ops s) := by
  induction ops generalizing s with
  | nil => exact h
  | cons o rest ih => exact ih (opDone_panelInv o h)

/-- No operation takes a geometry away. -/
theorem opsDone_rotation (ops : List Op) {s : State} (h : s.rotation ≠ none) : (opsDone ops s).rotation ≠ none := by
  induction ops generalizing s with
  | nil => exact h
  | cons o rest ih =>
    refine ih ?_
    cases ho : o.isEvent with
    | true => rwa [(opDone_panel ho s).rotation]
    | false =>
      cases o with
      | setGeometry m => nofun
      | configureDc | driveDc l | setCursor x y | drawingCheck | streamCheck n | setInitDone => simpa [opDone] using h
      | _ => cases ho

/-- What a run keeps: the invariant of a request in flight, whose position may also stand at the end of its sequence, as
that of an empty sequence does when the request is accepted. -/
structure InFlight (i : Instr) (u : State) : Prop where
  panel : PanelInv u
  initialised : u.initDone = true → u.rotation ≠ none
  req : u.req = some i
  position : u.stepIdx ≤ eventCount (sequenceOf u.cfg i)
  fault : u.fault = none
  refused : u.refused = none
  memory : memoryWf u.mem = true

section
variable {i : Instr} {u t : State} (h : RunsTo i u t)
include h

theorem RunsTo.panelInv (hu : PanelInv u) : PanelInv t := by
  cases h with
  | ends =>
    obtain ⟨hg, hp, hw, hc⟩ := opsDone_panelInv (remaining i u) hu
    exact ⟨hg, hp, hw, hc⟩
  | waits pre o => exact opWait_panelInv o (opsDone_panelInv pre hu)

theorem RunsTo.rotation (hu : u.rotation ≠ none) : t.rotation ≠ none := by
  cases h with
  | ends => exact opsDone_rotation _ hu
  | waits pre o => rw [(opWait_panel o _).rotation]; exact opsDone_rotation pre hu

/-- R101: initialize sets `init_done` and the geometry together, at its end. -/
theorem RunsTo.initialised (hu : InFlight i u) (ht : t.initDone = true) : t.rotation ≠ none := by
  rw [h.initDone hu.req hu.position, Bool.or_eq_true, Bool.and_eq_true, decide_eq_true_eq, Bool.not_eq_true'] at ht
  obtain hi | ⟨rfl, hb⟩ := ht
  · exact h.rotation (hu.initialised hi)
  · rw [h.eq_of_idle hu.req hb, State.idle_rotation, (opsDone_remaining_initialise hu.position).2]
    nofun

/-- R32: a request that waits does so before an event of its sequence. -/
theorem RunsTo.position (hu : InFlight i u) : PositionOk t := by
  cases h with
  | ends => exact ⟨rfl, rfl⟩
  | waits pre o post hops ho =>
    have hb := (opsDone_base pre u).trans (opWait_base o _)
    have hcount := eventCount_afterEvents hu.position
    rw [remaining] at hops
    rw [hops, eventCount_append, eventCount_cons, Op.isEvent_of_isByte ho, if_pos rfl] at hcount
    rw [PositionOk, hb.req, hu.req, hb.cfg, opWait_stepIdx, opsDone_stepIdx]
    dsimp only
    omega

theorem RunsTo.machineInv (hu : InFlight i u) : MachineInv t := by
  obtain ⟨hg, hp, hw, hc⟩ := h.panelInv hu.panel
  have hb := h.base
  refine ⟨hg, h.initialised hu, hp, hw, hc, h.position hu, fun hstop => ?_, hb.mem ▸ hu.memory⟩
  rw [hb.fault, hb.refused] at hstop
  exact hstop.elim (absurd hu.fault) (absurd hu.refused)

end

/-! ### Steps -/

theorem State.idle_of_idle {s : State} (h : Idle s) : s.idle = s := by
  obtain ⟨hreq, hpos, helem⟩ := h
  rw [State.idle, ← hreq, ← hpos, ← helem]

/-- R44: the state after power-on reset meets the invariant, host memory being canonical. -/
theorem powerOnReset_machineInv {s : State} (h : memoryWf s.mem = true) : MachineInv (powerOnReset s) where
  geometry := .inl ⟨rfl, rfl, rfl⟩
  initialised := nofun
  proto := trivial
  window := ⟨rfl, rfl⟩
  unconfigured := fun _ => ⟨rfl, rfl, rfl, rfl⟩
  position := ⟨rfl, rfl⟩
  quiescent := fun _ => rfl
  memory := h

/-- Settles O59: reset is power-on reset of itself. -/
theorem invariantHoldsAfterReset : Obligations.InvariantHoldsAfterReset :=
  have hreset (c : Config) : MachineInv (State.resetWith c) := powerOnReset_machineInv (s := .resetWith c) memoryWf_nil
  ⟨hreset, hreset Config.default⟩

section
variable {s : State} (h : MachineInv s)
include h

theorem MachineInv.idle_of_req_none (hreq : s.req = none) : Idle s := by
  have hpos := h.position
  rw [PositionOk, hreq] at hpos
  exact ⟨hreq, hpos⟩

theorem MachineInv.panelInv : PanelInv s := ⟨h.geometry, h.proto, h.window, h.unconfigured⟩

/-- A fault or a refusal ends the request in flight and changes nothing else the invariant speaks of (R146, R149). -/
theorem MachineInv.stop (f : Option (FaultCode × Word)) (r : Option RefusalCode) (ws : List Word)
    (x : Option ExternalInput) (d : Option Word) :
    MachineInv { s.idle with fault := f, refused := r, port := ws, input := x, readData := d } := by
  obtain ⟨hg, hi, hp, hw, hc, -, -, hm⟩ := h
  exact ⟨hg, hi, hp, hw, hc, ⟨rfl, rfl⟩, fun _ => rfl, hm⟩

theorem MachineInv.serveRead (num : Byte) (hreq : s.req = none) : MachineInv (serveRead num s) := by
  have hidle := State.idle_of_idle (h.idle_of_req_none hreq)
  obtain ⟨d, hread⟩ | ⟨-, f, hread⟩ := serveRead_cases num s <;> rw [hread]
  · have := h.stop s.fault s.refused s.port none d
    rwa [hidle] at this
  · exact h.stop _ s.refused s.port none none

theorem MachineInv.proceed {t : State} (hf : s.fault = none) (hr : s.refused = none) (ht : ProceedsTo s t) :
    MachineInv t := by
  cases ht with
  | idles => exact h
  | refuses w n => exact h.stop s.fault _ _ s.input s.readData
  | faults f info n => exact h.stop _ s.refused _ s.input s.readData
  | accepts i n hrun =>
    obtain ⟨hg, hp, hw, hu⟩ := h.panelInv
    exact hrun.machineInv ⟨⟨hg, hp, hw, hu⟩, h.initialised, rfl, Nat.zero_le _, hf, hr, h.memory⟩
  | goesOn i hreq hrun =>
    have hpos := h.position
    rw [PositionOk, hreq] at hpos
    exact hrun.machineInv ⟨h.panelInv, h.initialised, hreq, hpos.le, hf, hr, h.memory⟩

end

/-- Settles O60: power-on reset, a served read and every way the block proceeds keep the invariant. -/
theorem stepKeepsTheInvariant : Obligations.StepKeepsTheInvariant := by
  intro s t hinv h
  obtain ⟨-, rfl⟩ | ⟨num, hreq, rfl⟩ | ⟨hf, hr, h⟩ := step_cases h
  · exact powerOnReset_machineInv hinv.memory
  · exact hinv.serveRead num hreq
  · exact hinv.proceed hf hr h

end Sys2Proof.Machine
end

section
/-! Reset and the status port (R38, R39, R44, R167): the reset values, what each register reads, and what serving a read
does. -/

namespace Sys2Proof.Machine

/-! ### Power-on reset (R44, R167) -/

theorem step_powerOn {s : State} (h : s.input = some .powerOn) : step s = .next (powerOnReset s) := by
  rw [step, stepWith, h]

/-- Settles O1: the values are those of `powerOnReset`, and the state after reset is the power-on reset of itself. -/
theorem powerOnResetLeavesEveryFieldAtItsResetValue : Obligations.PowerOnResetLeavesEveryFieldAtItsResetValue := by
  unfold Obligations.PowerOnResetLeavesEveryFieldAtItsResetValue
  intro isReset
  have hreset (s : State) : isReset (powerOnReset s) :=
    ⟨rfl, rfl, rfl, rfl, rfl, rfl, rfl, rfl, rfl, rfl, rfl, rfl, rfl, Marks.has_empty, rfl, rfl, rfl, rfl, rfl, rfl⟩
  exact ⟨fun c => hreset (.resetWith c), fun s h => ⟨powerOnReset s, step_powerOn h, hreset s, rfl, rfl⟩⟩

/-! ### Fields placed at their bits (R38) -/

/-- The value of a field placed above another. -/
theorem toNat_append_eq {n m : Nat} (x : BitVec n) (y : BitVec m) : (x ++ y).toNat = x.toNat * 2 ^ m + y.toNat := by
  rw [BitVec.toNat_append, ← Nat.shiftLeft_add_eq_or_of_lt y.isLt, Nat.shiftLeft_eq]

theorem pairRegister_eq {lo hi : Option Half} {l h : Half} (hl : lo = some l) (hh : hi = some h) :
    pairRegister lo hi = .value (BitVec.ofNat 32 (h.toNat * 65536 + l.toNat)) := by
  subst hl hh
  refine congrArg StatusResult.value (BitVec.eq_of_toNat_eq ?_)
  rw [toNat_append_eq, BitVec.toNat_ofNat]
  omega

theorem pairRegister_unwritten {lo hi : Option Half} (h : lo = none ∨ hi = none) : pairRegister lo hi = .unwritten := by
  obtain rfl | rfl := h
  · rfl
  · cases lo <;> rfl

theorem rotationRegister_eq {s : State} {m : BitVec 2} (h : s.rotation = some m) :
    rotationRegister s = .value (BitVec.ofNat 32 m.toNat) := by
  rw [rotationRegister, h]
  exact congrArg StatusResult.value (BitVec.eq_of_toNat_eq (by simp))

theorem dcCode_toNat (d : DcLevel) : (dcCode d).toNat = match d with | .low => 0 | .high => 1 | .undef => 2 := by
  cases d <;> rfl

theorem controlRegister_eq (s : State) : controlRegister s = BitVec.ofNat 32 (s.initDone.toNat + 2 * s.dcCfg.toNat +
    4 * (match s.dc with | .low => 0 | .high => 1 | .undef => 2) + 16 + 256 * s.busy.toNat) := by
  rw [← dcCode_toNat]
  refine BitVec.eq_of_toNat_eq ?_
  simp only [controlRegister, toNat_append_eq, BitVec.toNat_ofNat, BitVec.toNat_ofBool, BitVec.reduceToNat]
  have := s.initDone.toNat_le; have := s.dcCfg.toNat_le; have := s.busy.toNat_le; have := (dcCode s.dc).isLt
  omega

theorem violationsRegister_eq (s : State) : violationsRegister s = BitVec.ofNat 32
    ((s.viol.has .beforeInit).toNat + 2 * (s.viol.has .dcUnconfigured).toNat +
      4 * (s.viol.has .dcIndeterminate).toNat + 8 * (s.viol.has .windowInvalid).toNat +
      16 * (s.viol.has .countMismatch).toNat + 32 * (s.viol.has .streamNotOpen).toNat +
      64 * (s.viol.has .paramIncomplete).toNat + 128 * (s.viol.has .paramOverrun).toNat +
      256 * (s.viol.has .protocolUnknown).toNat) := by
  refine BitVec.eq_of_toNat_eq ?_
  simp only [violationsRegister, Marks.has, toNat_append_eq, BitVec.toNat_ofNat, BitVec.toNat_ofBool, BitVec.reduceToNat]
  have := s.viol.beforeInit.toNat_le; have := s.viol.dcUnconfigured.toNat_le
  have := s.viol.dcIndeterminate.toNat_le; have := s.viol.windowInvalid.toNat_le
  have := s.viol.countMismatch.toNat_le; have := s.viol.streamNotOpen.toNat_le
  have := s.viol.paramIncomplete.toNat_le; have := s.viol.paramOverrun.toNat_le
  have := s.viol.protocolUnknown.toNat_le
  omega

theorem protoRegister_param {s : State} {c : Byte} {acc : List Byte} (h : s.proto = .param c acc)
    (hlen : acc.length ≤ 4) : protoRegister s = BitVec.ofNat 32 (1 + 16 * acc.length + 256 * c.toNat) := by
  refine BitVec.eq_of_toNat_eq ?_
  have := c.isLt
  simp only [protoRegister, h, toNat_append_eq, BitVec.toNat_ofNat, BitVec.reduceToNat]
  omega

theorem protoRegister_stream {s : State} {r : Option Nat} (h : s.proto = .stream r) :
    protoRegister s = BitVec.ofNat 32 (2 + 4 * r.isSome.toNat) := by
  refine BitVec.eq_of_toNat_eq ?_
  have := r.isSome.toNat_le
  simp only [protoRegister, h, toNat_append_eq, BitVec.toNat_ofNat, BitVec.toNat_ofBool, BitVec.reduceToNat]
  omega

theorem streamRemRegister_unwritten {s : State} (h : ∀ r, s.proto ≠ .stream (some r)) :
    streamRemRegister s = .unwritten := by
  unfold streamRemRegister
  split
  · rfl
  · rfl
  · rfl
  · rename_i r hr
    exact absurd hr (h r)

theorem faultRegister_eq (s : State) : faultRegister s = BitVec.ofNat 32 ((match s.fault with
      | none => 0
      | some (.illegalRequest, _) => 1
      | some (.bufferMisaligned, _) => 2
      | some (.unwrittenRead, _) => 3
      | some (.unassignedRegister, _) => 4) + 256 * s.refused.isSome.toNat) := by
  unfold faultRegister
  obtain _ | ⟨⟨⟩, info⟩ := s.fault <;> obtain _ | ⟨⟨⟩⟩ := s.refused <;> simp [faultCode, refusalCode]

theorem faultInfoRegister_eq (s : State) : faultInfoRegister s = match s.fault with
    | none => 0
    | some (_, info) => info := by
  unfold faultInfoRegister
  cases s.fault <;> rfl

theorem statusValue_unassigned {num : Byte} (h : 0x0B ≤ num.toNat) (s : State) : statusValue num s = .unassigned := by
  unfold statusValue
  split
  case h_12 => rfl
  all_goals omega

/-- Settles O44, register by register. -/
theorem statusRegistersReadTheirFields : Obligations.StatusRegistersReadTheirFields := by
  intro s
  refine ⟨fun _ _ => pairRegister_eq, fun _ => rotationRegister_eq, fun _ _ => pairRegister_eq,
    congrArg _ (controlRegister_eq s), congrArg _ (violationsRegister_eq s), fun h => ?_,
    fun _ _ h hlen => congrArg _ (protoRegister_param h hlen), fun _ h => congrArg _ (protoRegister_stream h), fun r h => ?_,
    fun _ _ => pairRegister_eq, fun _ _ => pairRegister_eq, congrArg _ (faultRegister_eq s),
    congrArg _ (faultInfoRegister_eq s)⟩
  · exact congrArg StatusResult.value (by rw [protoRegister, h])
  · exact (by rw [streamRemRegister, h] : streamRemRegister s = _)

/-- Settles O45, register by register. -/
theorem statusReadsOfNoValueFault : Obligations.StatusReadsOfNoValueFault := by
  intro s
  refine ⟨pairRegister_unwritten, fun h => ?_, pairRegister_unwritten, streamRemRegister_unwritten,
    pairRegister_unwritten, pairRegister_unwritten, fun _ h => statusValue_unassigned h s⟩
  exact (by rw [rotationRegister, h] : rotationRegister s = _)

/-! ### Serving a read (R39) -/

theorem step_readStatus {s : State} {num : Byte} (hidle : s.req = none) (h : s.input = some (.readStatus num)) :
    step s = .next (serveRead num s) := by
  rw [step, stepWith, h]
  simp [State.busy, hidle]

theorem raise_of_idle {s : State} (h : Idle s) (f : FaultCode) (info : Word) :
    raise f info s = { s with fault := some (f, info) } := by
  rw [raise, State.idle_of_idle h]

theorem serveRead_value {num : Byte} {s : State} {w : Word} (h : statusValue num s = .value w) :
    serveRead num s = { s with input := none, readData := some w } := by
  rw [serveRead, h]

/-- A fault already recorded is kept (R39, R155). -/
theorem serveRead_faulted {num : Byte} {s : State} (h : ∀ w, statusValue num s ≠ .value w) (hf : s.fault ≠ none) :
    serveRead num s = { s with input := none, readData := none } := by
  obtain ⟨f, hf⟩ := Option.ne_none_iff_exists'.1 hf
  unfold serveRead
  split
  · rename_i w hw
    exact absurd hw (h w)
  all_goals simp [raiseIfNone, hf]

/-- Settles O46: an idle block serves the read, and a fault it raises finds nothing in flight. -/
theorem statusReadChangesNothingButTheFault : Obligations.StatusReadChangesNothingButTheFault := by
  intro s num hidle hin
  have hraise (f : FaultCode) : raise f (num.setWidth 32) { s with input := none, readData := none } =
      { s with input := none, readData := none, fault := some (f, num.setWidth 32) } :=
    raise_of_idle (s := { s with input := none, readData := none }) hidle f _
  rw [step_readStatus hidle.1 hin]
  refine ⟨fun w h => ?_, fun h hf => ?_, fun h hf => ?_, fun h hf => ?_⟩
  · rw [serveRead_value h]
  · rw [← hraise, serveRead, h]
    simp [raiseIfNone, hf]
  · rw [← hraise, serveRead, h]
    simp [raiseIfNone, hf]
  · rw [serveRead_faulted h hf]

end Sys2Proof.Machine
end

section
/-! What steers no request (R39, R41, R151): no operation reads the marks, the fault, the refusal or the pending input, so
two runs that differ in them alone go the same way. -/

namespace Sys2Proof.Machine

/-- The state `t` is `s` with another fault, refusal and pending input, and with other marks unless `same` holds. -/
def Unsteered (same : Prop) (f : Option (FaultCode × Word)) (r : Option RefusalCode) (x : Option ExternalInput)
    (s t : State) : Prop :=
  ∃ v, (same → v = s.viol) ∧ t = { s with viol := v, fault := f, refused := r, input := x }

namespace Unsteered

section
variable {same : Prop} {f : Option (FaultCode × Word)} {r : Option RefusalCode} {x : Option ExternalInput} {s t : State}
  (h : Unsteered same f r x s t)
include h

/-! ### What is read is the same -/

theorem cfg : t.cfg = s.cfg := by obtain ⟨v, -, rfl⟩ := h; rfl

theorem proto : t.proto = s.proto := by obtain ⟨v, -, rfl⟩ := h; rfl

theorem dcCfg : t.dcCfg = s.dcCfg := by obtain ⟨v, -, rfl⟩ := h; rfl

theorem initDone : t.initDone = s.initDone := by obtain ⟨v, -, rfl⟩ := h; rfl

theorem accepts : t.accepts = s.accepts := by obtain ⟨v, -, rfl⟩ := h; rfl

theorem stepIdx : t.stepIdx = s.stepIdx := by obtain ⟨v, -, rfl⟩ := h; rfl

theorem elem : t.elem = s.elem := by obtain ⟨v, -, rfl⟩ := h; rfl

theorem openCount_eq : openCount t = openCount s := by obtain ⟨v, -, rfl⟩ := h; rfl

theorem effLevel_eq : effLevel t = effLevel s := by obtain ⟨v, -, rfl⟩ := h; rfl

theorem elementAt_eq (a : Word) : elementAt a t = elementAt a s := by obtain ⟨v, -, rfl⟩ := h; rfl

/-! ### What is written is the same: the flags and the tracker -/

theorem mark (w : Violation) : Unsteered same f r x (s.mark w) (t.mark w) := by
  obtain ⟨v, hv, rfl⟩ := h
  exact ⟨v.add w, fun hs => by rw [hv hs]; rfl, rfl⟩

theorem markIf (p : Bool) (w : Violation) : Unsteered same f r x (s.markIf p w) (t.markIf p w) := by
  cases p
  · exact h
  · exact h.mark w

theorem withProto (p : ProtoState) : Unsteered same f r x { s with proto := p } { t with proto := p } := by
  obtain ⟨v, hv, rfl⟩ := h; exact ⟨v, hv, rfl⟩

theorem withElem (e : Option Half) : Unsteered same f r x { s with elem := e } { t with elem := e } := by
  obtain ⟨v, hv, rfl⟩ := h; exact ⟨v, hv, rfl⟩

theorem forgetColumns : Unsteered same f r x (forgetColumns s) (forgetColumns t) := by
  obtain ⟨v, hv, rfl⟩ := h; exact ⟨v, hv, rfl⟩

theorem forgetPages : Unsteered same f r x (forgetPages s) (forgetPages t) := by
  obtain ⟨v, hv, rfl⟩ := h; exact ⟨v, hv, rfl⟩

theorem forgetRange (op : Byte) : Unsteered same f r x (forgetRange op s) (forgetRange op t) := by
  simp only [Machine.forgetRange, h.cfg]
  split
  · exact h.forgetColumns
  · exact h.forgetPages

theorem closeContext : Unsteered same f r x (closeContext s) (closeContext t) := by
  cases hp : s.proto with
  | unknown => simpa only [Machine.closeContext, h.proto, hp] using h
  | param c acc =>
    simp only [Machine.closeContext, h.proto, h.cfg, hp]
    split
    · exact (h.mark _).forgetRange c
    · exact h
  | stream n =>
    cases n with
    | none => simpa only [Machine.closeContext, h.proto, hp] using h
    | some n => simpa only [Machine.closeContext, h.proto, hp] using h.markIf _ _

theorem openContext (b : Byte) : Unsteered same f r x (openContext b s) (openContext b t) := by
  have hramwr : t.cfg.opRamwr = s.cfg.opRamwr := by rw [h.cfg]
  have hswreset : t.cfg.opSwreset = s.cfg.opSwreset := by rw [h.cfg]
  simp only [Machine.openContext, openStream, hramwr, hswreset, h.openCount_eq]
  split
  · exact (h.markIf _ _).withProto _
  · split
    · exact h.forgetColumns.forgetPages.withProto _
    · exact h.withProto _

theorem setRange (op : Byte) (a b : Half) : Unsteered same f r x (setRange op a b s) (setRange op a b t) := by
  obtain ⟨v, hv, rfl⟩ := h
  simp only [Machine.setRange]
  split <;> exact ⟨v, hv, rfl⟩

theorem latchRange (op : Byte) (acc : List Byte) : Unsteered same f r x (latchRange op acc s) (latchRange op acc t) := by
  unfold Machine.latchRange
  split
  · exact h.setRange op _ _
  · exact h

theorem trackData (b : Byte) : Unsteered same f r x (trackData b s) (trackData b t) := by
  cases hp : s.proto with
  | unknown => simpa only [Machine.trackData, h.proto, hp] using h.mark _
  | param c acc =>
    have hwin : isWindowCmd t.cfg c = isWindowCmd s.cfg c := by rw [h.cfg]
    simp only [Machine.trackData, captureParam, h.proto, hwin, hp]
    split
    · split
      · exact (h.withProto _).latchRange c _
      · exact h.mark _
    · exact h
  | stream n =>
    obtain _ | _ | n := n
    · simpa only [Machine.trackData, h.proto, hp] using h
    · simpa only [Machine.trackData, h.proto, hp] using h.mark _
    · simpa only [Machine.trackData, h.proto, hp] using h.withProto _

theorem track (lvl : DcLevel) (b : Byte) : Unsteered same f r x (track lvl b s) (track lvl b t) := by
  cases lvl with
  | low => exact h.closeContext.openContext b
  | high => exact h.trackData b
  | undef => exact h.forgetColumns.forgetPages.withProto _

/-! ### Operations -/

theorem driveDc (l : DcLevel) : Unsteered same f r x (driveDc l s) (driveDc l t) := by
  simp only [Machine.driveDc, h.dcCfg]
  split
  · obtain ⟨v, hv, rfl⟩ := h; exact ⟨v, hv, rfl⟩
  · exact h.mark _

theorem releaseDc : Unsteered same f r x (releaseDc s) (releaseDc t) := by
  simp only [Machine.releaseDc, h.dcCfg]
  split
  · obtain ⟨v, hv, rfl⟩ := h; exact ⟨v, hv, rfl⟩
  · exact h

theorem markLevel : Unsteered same f r x (markLevel s) (markLevel t) := by
  simp only [Machine.markLevel, h.dcCfg, h.effLevel_eq]
  exact (h.markIf _ _).markIf _ _

theorem sentByte (lvl : DcLevel) (b : Byte) : Unsteered same f r x (sentByte lvl b s) (sentByte lvl b t) := by
  have hrec : Unsteered same f r x (record (.byte lvl b) (takeByte s)) (record (.byte lvl b) (takeByte t)) := by
    obtain ⟨v, hv, rfl⟩ := h; exact ⟨v, hv, rfl⟩
  obtain ⟨v, hv, ht⟩ := hrec.track lvl b
  exact ⟨v, hv, by rw [Machine.sentByte, ht]; rfl⟩

theorem elemReady_eq (o : Op) : elemReady o t = elemReady o s := by
  cases o <;> simp only [elemReady, h.elementAt_eq]

theorem byteLevel_eq (o : Op) : byteLevel o t = byteLevel o s := by
  cases o <;> simp only [byteLevel, h.effLevel_eq, (h.driveDc _).effLevel_eq]

theorem opByte_eq (o : Op) : opByte o t = opByte o s := by
  cases o <;> simp only [opByte, h.elementAt_eq, h.cfg]

theorem opWait (o : Op) : Unsteered same f r x (opWait o s) (opWait o t) := by
  cases o with
  | command b | data b => exact (h.driveDc _).markLevel
  | raw b => exact h.markLevel
  | elemFirst a | elemSecond a =>
    simp only [Machine.opWait, h.elementAt_eq]
    split
    · exact ((h.withElem _).driveDc _).markLevel
    · exact h
  | _ => exact h

theorem afterByte (o : Op) : Unsteered same f r x (afterByte o s) (afterByte o t) := by
  cases o with
  | command b => exact h.releaseDc
  | elemSecond a => exact h.withElem none
  | _ => exact h

theorem opDone (o : Op) : Unsteered same f r x (opDone o s) (opDone o t) := by
  cases hb : o.isByte with
  | true =>
    rw [opDone_of_isByte hb, opDone_of_isByte hb, h.byteLevel_eq, h.opByte_eq]
    exact ((h.opWait o).sentByte _ _).afterByte o
  | false =>
    cases o with
    | driveDc l => exact h.driveDc l
    | drawingCheck => simpa only [Machine.opDone, drawingCheck, h.initDone] using h.markIf _ _
    | streamCheck n => simpa only [Machine.opDone, streamCheck, h.proto] using h.markIf _ _
    | command b | data b | raw b | elemFirst a | elemSecond a => cases hb
    | _ => obtain ⟨v, hv, rfl⟩ := h; exact ⟨v, hv, rfl⟩

end

end Unsteered

/-! ### Runs -/

/-- Two operations or sequences end alike, in states that `R` relates. -/
inductive SameProgress (R : State → State → Prop) : Progress → Progress → Prop
  | done {s t : State} (h : R s t) : SameProgress R (.done s) (.done t)
  | stuck (why : Fault) {s t : State} (h : R s t) : SameProgress R (.stuck why s) (.stuck why t)

/-- Two steps end alike, in next states that `R` relates or for the same reason. -/
inductive SameOutcome (R : State → State → Prop) :
    Host.Outcome State Fault Refusal → Host.Outcome State Fault Refusal → Prop
  | next {s t : State} (h : R s t) : SameOutcome R (.next s) (.next t)
  | fault (why : Fault) : SameOutcome R (.fault why) (.fault why)

namespace Unsteered

section
variable {same : Prop} {f : Option (FaultCode × Word)} {r : Option RefusalCode} {x : Option ExternalInput} {s t : State}

theorem runOp (o : Op) (h : Unsteered same f r x s t) :
    SameProgress (Unsteered same f r x) (runOp o s) (runOp o t) := by
  rw [runOp_eq, runOp_eq, h.elemReady_eq, h.accepts]
  split
  · exact .stuck _ h
  · split
    · exact .stuck _ (h.opWait o)
    · exact .done (h.opDone o)

theorem runOps (ops : List Op) (h : Unsteered same f r x s t) :
    SameProgress (Unsteered same f r x) (runOps ops s) (runOps ops t) := by
  induction ops generalizing s t with
  | nil => exact .done h
  | cons o rest ih =>
    have hstep := h.runOp o
    unfold Machine.runOps
    revert hstep
    generalize Machine.runOp o s = p, Machine.runOp o t = q
    rintro (hst | ⟨why, hst⟩)
    · exact ih hst
    · exact .stuck why hst

theorem idle (h : Unsteered same f r x s t) : Unsteered same f r x s.idle t.idle := by
  obtain ⟨v, hv, rfl⟩ := h; exact ⟨v, hv, rfl⟩

theorem begin (i : Instr) (h : Unsteered same f r x s t) : Unsteered same f r x (s.begin i) (t.begin i) := by
  obtain ⟨v, hv, rfl⟩ := h; exact ⟨v, hv, rfl⟩

theorem runRequest (i : Instr) (ops : List Op) (h : Unsteered same f r x s t) :
    SameOutcome (Unsteered same f r x) (runRequest i ops s) (runRequest i ops t) := by
  have hrun := (h.begin i).runOps ops
  unfold Machine.runRequest
  revert hrun
  generalize Machine.runOps ops (s.begin i) = p, Machine.runOps ops (t.begin i) = q
  rintro (hst | ⟨why, hst⟩)
  · exact .next hst.idle
  · exact .next hst

theorem resume (i : Instr) (h : Unsteered same f r x s t) :
    SameOutcome (Unsteered same f r x) (resume i s) (resume i t) := by
  unfold Machine.resume resumeOps
  rw [h.cfg, h.stepIdx, h.elem]
  have hrun := h.runOps (afterEvents s.stepIdx (sequenceOf s.cfg i))
  revert hrun
  generalize Machine.runOps _ s = p, Machine.runOps _ t = q
  rintro (hst | ⟨why, hst⟩)
  · exact .next hst.idle
  · dsimp only
    rw [hst.stepIdx, hst.elem]
    split
    · exact .fault why
    · exact .next hst

end

end Unsteered

/-! ### The obligations -/

/-- A request that runs its sequence does so alike whatever the marks, the fault and the refusal are. -/
theorem runRequest_unsteered (i : Instr) (ops : List Op) (s : State) (v : Marks) (f : Option (FaultCode × Word))
    (r : Option RefusalCode) :
    ∃ v' f' r', runRequest i ops { s with viol := v, fault := f, refused := r } =
      mapNext (fun t => { t with viol := v', fault := f', refused := r' }) (runRequest i ops s) := by
  have hinput (t : State) (ht : runRequest i ops s = .next t) : t.input = s.input := (runRequest_base ht).input
  have hst : Unsteered False f r s.input s { s with viol := v, fault := f, refused := r } := ⟨v, nofun, rfl⟩
  have hrun := hst.runRequest i ops
  revert hrun hinput
  generalize runRequest i ops s = p, runRequest i ops { s with viol := v, fault := f, refused := r } = q
  rintro hinput (⟨w, -, rfl⟩ | why)
  · exact ⟨w, f, r, by rw [mapNext, ← hinput _ rfl]⟩
  · exact ⟨v, f, r, rfl⟩

/-- Settles O52: the two requests that end without a run write the refusal and the fault alone, every other one runs. -/
theorem marksAndFaultsNeverSteerARequest : Obligations.MarksAndFaultsNeverSteerARequest := by
  intro i s v f r
  have hrun := runRequest_unsteered i (sequenceOf s.cfg i) s v f r
  cases i with
  | writeText size addr => exact ⟨v, f, some .writeTextOutOfScope, rfl⟩
  | pushPixels x y w k buf =>
    simp only [exec, execPushPixels]
    split
    · exact ⟨v, some (.bufferMisaligned, buf), r, rfl⟩
    · exact hrun
  | _ => exact hrun

theorem resume_input (i : Instr) (s : State) (x : Option ExternalInput) :
    resume i { s with input := x } = mapNext (fun t => { t with input := x }) (resume i s) := by
  have hbase (t : State) (ht : resume i s = .next t) := (RunsTo.of_resume ht).base
  have hst : Unsteered True s.fault s.refused x s { s with input := x } := ⟨s.viol, fun _ => rfl, rfl⟩
  have hrun := hst.resume i
  revert hrun hbase
  generalize resume i s = p, resume i { s with input := x } = q
  rintro hbase (⟨v, hv, rfl⟩ | why)
  · have hb := hbase _ rfl
    rw [mapNext, hv trivial, ← hb.fault, ← hb.refused]
  · rfl

section
variable {s : State}

theorem proceed_of_fault {f : FaultCode × Word} (hf : s.fault = some f) : proceed s = .fault (.halted f.1 f.2) := by
  simp only [proceed, hf]

theorem proceed_of_refused {r : RefusalCode} (hf : s.fault = none) (hr : s.refused = some r) :
    proceed s = .refused (.requestRefused r) := by
  simp only [proceed, hf, hr]

theorem proceed_of_req {i : Instr} (hf : s.fault = none) (hr : s.refused = none) (hreq : s.req = some i) :
    proceed s = resume i s := by
  simp only [proceed, hf, hr, hreq]

/-- A busy block proceeds without reading its input. -/
theorem proceed_input (hbusy : s.busy = true) (x : Option ExternalInput) :
    proceed { s with input := x } = mapNext (fun t => { t with input := x }) (proceed s) := by
  obtain ⟨i, hreq⟩ := Option.isSome_iff_exists.1 hbusy
  obtain hf | ⟨f, hf⟩ := Option.eq_none_or_eq_some s.fault
  · obtain hr | ⟨r, hr⟩ := Option.eq_none_or_eq_some s.refused
    · rw [proceed_of_req hf hr hreq, proceed_of_req (s := { s with input := x }) hf hr hreq]
      exact resume_input i s x
    · rw [proceed_of_refused hf hr, proceed_of_refused (s := { s with input := x }) hf hr]; rfl
  · rw [proceed_of_fault hf, proceed_of_fault (s := { s with input := x }) hf]; rfl

end

/-- Settles O47: a read that waits leaves the block to proceed. -/
theorem statusReadWaitsWhileBusy : Obligations.StatusReadWaitsWhileBusy := by
  intro s num hbusy hin
  calc step s = proceed s := by rw [step, stepWith, hin]; exact if_pos hbusy
    _ = proceed { s with input := some (.readStatus num) } := by rw [← hin]
    _ = mapNext _ (step { s with input := none }) := proceed_input (s := { s with input := none }) hbusy _

end Sys2Proof.Machine
end

section
/-! What a sequence sends, said once: a sequence that sends the events `evs` from a state with no element at hand does so
from every state like it, so what it sends is put together from what its parts send (R36, R52, R84, R116, R131). From it,
where push_pixels is stuck on an element that is not admitted by host memory (R52, R165). -/

namespace Sys2Proof.Machine

/-! ### What a sequence sends -/

/-- Two states that send alike: what decides the bytes of a sequence and their levels is the same, and no element is at
hand. -/
structure SendsLike (s t : State) : Prop where
  cfg : t.cfg = s.cfg
  mem : t.mem = s.mem
  dcCfg : t.dcCfg = s.dcCfg
  elem : t.elem = none

/-- From every state like `s` the operations wait for no element of host memory, append `evs` to the trace and end in a
state like `s`. -/
def Sends (ops : List Op) (evs : List Event) (s : State) : Prop :=
  ∀ t, SendsLike s t →
    elemsReady ops t = true ∧ (opsDone ops t).trace = t.trace ++ evs ∧ SendsLike s (opsDone ops t)

namespace Sends

variable {s : State}

theorem nil : Sends [] [] s := fun _ ht => ⟨rfl, (List.append_nil _).symm, ht⟩

theorem append {a b : List Op} {ea eb : List Event} (ha : Sends a ea s) (hb : Sends b eb s) :
    Sends (a ++ b) (ea ++ eb) s := by
  intro t ht
  obtain ⟨hready, htrace, hlike⟩ := ha t ht
  obtain ⟨hready', htrace', hlike'⟩ := hb _ hlike
  rw [elemsReady_append, opsDone_append, htrace', htrace, List.append_assoc]
  exact ⟨by simp [hready, hready'], rfl, hlike'⟩

theorem cons {o : Op} {ops : List Op} {eo evs : List Event} (ho : Sends [o] eo s) (h : Sends ops evs s) :
    Sends (o :: ops) (eo ++ evs) s := ho.append h

theorem flatMap {α : Type} {l : List α} {f : α → List Op} {g : α → List Event} (h : ∀ x ∈ l, Sends (f x) (g x) s) :
    Sends (l.flatMap f) (l.flatMap g) s := by
  induction l with
  | nil => exact nil
  | cons x xs ih => exact (h x (by simp)).append (ih fun y hy => h y (by simp [hy]))

/-- An operation that needs no element and leaves none at hand sends what it appends to the trace. -/
theorem single {o : Op} {evs : List Event} (hready : ∀ t, elemReady o t = true)
    (htrace : ∀ t, SendsLike s t → (opDone o t).trace = t.trace ++ evs)
    (hdone : ∀ t, (opDone o t).dcCfg = t.dcCfg ∧ (opDone o t).elem = t.elem) : Sends [o] evs s := by
  intro t ht
  obtain ⟨hdc, helem⟩ := hdone t
  refine ⟨by simp [elemsReady, hready], htrace t ht, ?_⟩
  exact ⟨(opDone_base o t).cfg.trans ht.cfg, (opDone_base o t).mem.trans ht.mem, hdc.trans ht.dcCfg, helem.trans ht.elem⟩

end Sends

theorem SendsLike.effLevel_driveDc {s t : State} (h : SendsLike s t) (l : DcLevel) :
    effLevel (driveDc l t) = drivenLevel s l := by
  rw [Machine.effLevel_driveDc, drivenLevel, h.dcCfg]

theorem sends_drawingCheck (s : State) : Sends [.drawingCheck] [] s :=
  .single (fun _ => rfl) (fun t _ => by simp [opDone]) fun t => by simp [opDone]

theorem sends_streamCheck (n : Nat) (s : State) : Sends [.streamCheck n] [] s :=
  .single (fun _ => rfl) (fun t _ => by simp [opDone]) fun t => by simp [opDone]

theorem sends_command (b : Byte) (s : State) : Sends [.command b] [cmdEvent s b] s :=
  .single (fun _ => rfl) (fun t ht => by simp [opDone, sentByte, takeByte, cmdEvent, ht.effLevel_driveDc])
    fun t => by simp [opDone, sentByte, takeByte]

theorem sends_data (b : Byte) (s : State) : Sends [.data b] [dataEvent s b] s :=
  .single (fun _ => rfl) (fun t ht => by simp [opDone, sentByte, takeByte, dataEvent, ht.effLevel_driveDc])
    fun t => by simp [opDone, sentByte, takeByte]

/-- The two data bytes of a 16-bit value, high byte first (R50). -/
theorem sends_pixelOps (v : Half) (s : State) : Sends (pixelOps v) (halfEvents s v) s :=
  (sends_data _ s).cons (sends_data _ s)

/-! ### The window bytes -/

/-- R118: the window end computed modulo 2^16 is the one the statements write. -/
theorem windowEnd_eq_endOf (x w : Half) : windowEnd x w = endOf x w := by
  unfold windowEnd endOf
  bv_omega

theorem sends_rangeOps (op : Byte) (a b : Half) (s : State) :
    Sends (rangeOps op a b) ([cmdEvent s op] ++ (halfEvents s a ++ halfEvents s b)) s :=
  (sends_command op s).cons ((sends_pixelOps a s).append (sends_pixelOps b s))

/-- `SetAddrWindowBody` sends its eleven bytes (R116). -/
theorem sends_windowOps (x y w h : Half) (s : State) : Sends (windowOps s.cfg x y w h) (windowEvents s x y w h) s := by
  have hsend := ((sends_rangeOps s.cfg.opCaset x (endOf x w) s).append
    (sends_rangeOps s.cfg.opPaset y (endOf y h) s)).append (sends_command s.cfg.opRamwr s)
  simpa only [windowOps, windowEnd_eq_endOf, windowEvents, List.append_assoc] using hsend

/-! ### The elements of a buffer -/

/-- R187: the address of an element, modulo 2^32. -/
theorem elementAddr_toNat (buf : Word) (i : Nat) : (elementAddr buf i).toNat = (buf.toNat + 2 * i) % 2 ^ 32 := by
  simp [elementAddr]

theorem elementAddr_add_one_toNat (buf : Word) (i : Nat) :
    (elementAddr buf i + 1).toNat = ((buf.toNat + 2 * i) % 2 ^ 32 + 1) % 2 ^ 32 := by
  rw [BitVec.toNat_add, elementAddr_toNat]; rfl

/-- An element host memory holds is the one the block reads (R52, R187). -/
theorem readElement_of_holdsElements {s : State} {buf : Word} {n : Nat} {e : Nat → Half} (h : HoldsElements s buf n e)
    {i : Nat} (hi : i < n) : readElement s.cfg.hostByteOrder s.mem (elementAddr buf i) = some (e i) := by
  obtain ⟨b0, b1, h0, h1, he⟩ := h i hi
  rw [readElement, elementAddr_toNat, elementAddr_add_one_toNat, h0, h1, he]
  rfl

/-- R52: an element is not admitted where one of its bytes is not. -/
theorem readElement_eq_none {o : HostByteOrder} {m : Memory} {a : Word}
    (h : readByte m a.toNat = none ∨ readByte m (a + 1).toNat = none) : readElement o m a = none := by
  unfold readElement
  obtain h | h := h
  · rw [h]
  · rw [h]; cases readByte m a.toNat <;> rfl

theorem SendsLike.elementAt_eq {s t : State} (h : SendsLike s t) (a : Word) :
    elementAt a t = readElement s.cfg.hostByteOrder s.mem a := by
  rw [elementAt, h.elem, h.cfg, h.mem]

/-- The first byte of an element leaves the element at hand. -/
theorem opDone_elemFirst {a : Word} {t : State} {v : Half} (h : elementAt a t = some v) :
    let u := opDone (.elemFirst a) t
    u.trace = t.trace ++ [.byte (effLevel (driveDc .high t)) (firstWireByte t.cfg.pushPixelOrder v)] ∧
      u.elem = some v ∧ u.dcCfg = t.dcCfg := by
  simp [opDone, opWait, opByte, h, sentByte, takeByte]

/-- The second byte of an element leaves none at hand. -/
theorem opDone_elemSecond {a : Word} {t : State} {v : Half} (h : elementAt a t = some v) :
    let u := opDone (.elemSecond a) t
    u.trace = t.trace ++ [.byte (effLevel (driveDc .high t)) (secondWireByte t.cfg.pushPixelOrder v)] ∧
      u.elem = none ∧ u.dcCfg = t.dcCfg := by
  simp [opDone, opWait, opByte, h, sentByte, takeByte]

/-- The two bytes of an element on the wire (R51). -/
theorem elementEvents_eq (s : State) (v : Half) : elementEvents s v =
    [dataEvent s (firstWireByte s.cfg.pushPixelOrder v), dataEvent s (secondWireByte s.cfg.pushPixelOrder v)] := by
  unfold elementEvents firstWireByte secondWireByte
  cases s.cfg.pushPixelOrder <;> rfl

/-- An admitted element sends its two bytes in the order `PUSH_PIXEL_ORDER`, and is then done with (R51, R131). -/
theorem sends_elementOps {s : State} {buf : Word} {i : Nat} {v : Half}
    (h : readElement s.cfg.hostByteOrder s.mem (elementAddr buf i) = some v) :
    Sends (elementOps buf i) (elementEvents s v) s := by
  intro t ht
  have hread : elementAt (elementAddr buf i) t = some v := (ht.elementAt_eq _).trans h
  obtain ⟨htrace, helem, hdc⟩ := opDone_elemFirst hread
  have hbase := opDone_base (.elemFirst (elementAddr buf i)) t
  have hkept : elementAt (elementAddr buf i) (opDone (.elemFirst (elementAddr buf i)) t) = some v := by
    rw [elementAt, helem]
  obtain ⟨htrace', helem', hdc'⟩ := opDone_elemSecond hkept
  have hbase' := hbase.trans (opDone_base (.elemSecond (elementAddr buf i)) _)
  refine ⟨by simp [elementOps, elemsReady, elemReady, hread, hkept], ?_, ?_⟩
  · rw [elementOps, opsDone_cons, opsDone_cons, opsDone_nil, htrace', htrace, elementEvents_eq, hbase.cfg, ht.cfg]
    simp [dataEvent, drivenLevel, effLevel_driveDc, hdc, ht.dcCfg]
  · exact ⟨hbase'.cfg.trans ht.cfg, hbase'.mem.trans ht.mem, (hdc'.trans hdc).trans ht.dcCfg, helem'⟩

/-! ### The sequence of push_pixels up to an element -/

/-- The operations of push_pixels before those of element `k`. -/
def pushPixelsBefore (c : Config) (x y w h : Half) (buf : Word) (k : Nat) : List Op :=
  .drawingCheck :: windowOps c x y w h ++ .streamCheck (pixelCount w h) :: (List.range k).flatMap (elementOps buf)

theorem range_eq_append_cons {k n : Nat} (hk : k < n) : ∃ rest, List.range n = List.range k ++ k :: rest := by
  obtain ⟨m, rfl⟩ := Nat.exists_eq_add_of_lt hk
  exact ⟨_, by rw [Nat.add_assoc, List.range_add, List.range_succ_eq_map, List.map_cons, Nat.add_zero]⟩

theorem pushPixelsSeq_split (c : Config) (x y w h : Half) (buf : Word) {k : Nat} (hk : k < pixelCount w h) :
    ∃ post, pushPixelsSeq c x y w h buf = pushPixelsBefore c x y w h buf k ++ .elemFirst (elementAddr buf k) :: post := by
  obtain ⟨rest, hrest⟩ := range_eq_append_cons hk
  refine ⟨.elemSecond (elementAddr buf k) :: rest.flatMap (elementOps buf), ?_⟩
  rw [pushPixelsSeq, pushPixelsBefore, hrest, List.flatMap_append, List.flatMap_cons]
  simp only [List.append_assoc, List.cons_append, elementOps, List.nil_append]

theorem byteCount_elements (buf : Word) (k : Nat) : byteCount ((List.range k).flatMap (elementOps buf)) = 2 * k := by
  induction k with
  | zero => rfl
  | succ k ih => rw [List.range_succ, List.flatMap_append, byteCount_append, ih]; rfl

theorem eventCount_elements (buf : Word) (k : Nat) : eventCount ((List.range k).flatMap (elementOps buf)) = 2 * k := by
  induction k with
  | zero => rfl
  | succ k ih => rw [List.range_succ, List.flatMap_append, eventCount_append, ih]; rfl

section
variable (c : Config) (x y w h : Half) (buf : Word) (k : Nat)

theorem byteCount_pushPixelsBefore : byteCount (pushPixelsBefore c x y w h buf k) = 11 + 2 * k := by
  rw [pushPixelsBefore, byteCount_append, byteCount_cons (.streamCheck _), byteCount_elements]
  change 11 + (0 + 2 * k) = _
  rw [Nat.zero_add]

theorem eventCount_pushPixelsBefore : eventCount (pushPixelsBefore c x y w h buf k) = 11 + 2 * k := by
  rw [pushPixelsBefore, eventCount_append, eventCount_cons (.streamCheck _), eventCount_elements]
  change 11 + (0 + 2 * k) = _
  rw [Nat.zero_add]

end

/-- The window bytes and the elements before element `k`, where host memory holds those (R131). -/
theorem sends_pushPixelsBefore (x y w h : Half) {s : State} {buf : Word} {k : Nat} {e : Nat → Half}
    (he : HoldsElements s buf k e) : Sends (pushPixelsBefore s.cfg x y w h buf k)
      (windowEvents s x y w h ++ (List.range k).flatMap fun i => elementEvents s (e i)) s := by
  have helems : Sends ((List.range k).flatMap (elementOps buf)) ((List.range k).flatMap fun i => elementEvents s (e i)) s :=
    .flatMap fun i hi => sends_elementOps (readElement_of_holdsElements he (List.mem_range.1 hi))
  exact ((sends_drawingCheck s).cons (sends_windowOps x y w h s)).append ((sends_streamCheck _ s).cons helems)

/-! ### Stuck on memory -/

/-- A sequence whose next element is not admitted by host memory is stuck there, with the operations before it done (R165). -/
theorem runOps_not_elemReady {pre : List Op} {o : Op} {s u : State} (post : List Op) (hpre : runOps pre s = .done u)
    (ho : elemReady o u = false) : runOps (pre ++ o :: post) s = .stuck .memoryNotAdmitted u := by
  rw [runOps_append, hpre]
  simp only [runOps, runOp_eq, ho, if_true]

/-- An operation that is no event is always done, and leaves the element at hand. -/
theorem runOp_of_not_event {o : Op} (h : o.isEvent = false) (s : State) :
    runOp o s = .done (opDone o s) ∧ (opDone o s).elem = s.elem := by
  cases o with
  | command b | data b | raw b | elemFirst a | elemSecond a | wait k => cases h
  | _ => exact ⟨rfl, by simp [opDone]⟩

theorem runOps_of_no_event {ops : List Op} (h : ∀ o ∈ ops, o.isEvent = false) (s : State) :
    runOps ops s = .done (opsDone ops s) ∧ (opsDone ops s).elem = s.elem := by
  induction ops generalizing s with
  | nil => exact ⟨rfl, rfl⟩
  | cons o rest ih =>
    obtain ⟨hrun, helem⟩ := runOp_of_not_event (h o (by simp)) s
    obtain ⟨hruns, helems⟩ := ih (fun p hp => h p (by simp [hp])) (opDone o s)
    exact ⟨by rw [runOps, hrun]; exact hruns, helems.trans helem⟩

theorem eventCount_eq_zero_iff {ops : List Op} : eventCount ops = 0 ↔ ∀ o ∈ ops, o.isEvent = false := by
  simp [eventCount]

/-- A request that stands at an element not admitted by host memory has no step (R165): the checks before the element are
made again, and nothing moves. -/
theorem resume_not_admitted {i : Instr} {u : State} {pre post : List Op} {a : Word}
    (hseq : sequenceOf u.cfg i = pre ++ .elemFirst a :: post) (hpos : u.stepIdx = eventCount pre)
    (ha : elementAt a u = none) : resume i u = .fault .memoryNotAdmitted := by
  have hcount : eventCount (afterEvents u.stepIdx pre) = 0 := by
    have := eventCount_afterEvents hpos.le
    omega
  obtain ⟨hrun, helem⟩ := runOps_of_no_event (eventCount_eq_zero_iff.1 hcount) u
  have hbase := opsDone_base (afterEvents u.stepIdx pre) u
  have hready : elemReady (.elemFirst a) (opsDone (afterEvents u.stepIdx pre) u) = false := by
    rw [elemReady, elementAt, helem, hbase.cfg, hbase.mem, ← elementAt, ha]; rfl
  have hidx : (opsDone (afterEvents u.stepIdx pre) u).stepIdx = u.stepIdx := by rw [opsDone_stepIdx, hcount]; rfl
  rw [resume, resumeOps, hseq, afterEvents_append hpos.le, runOps_not_elemReady post hrun hready]
  exact if_pos ⟨hidx, helem⟩

/-! ### push_pixels at an element -/

/-- The state in which push_pixels, run without a stall, stands before element `k`. -/
def atElement (x y w h : Half) (buf : Word) (k : Nat) (s : State) : State :=
  opsDone (pushPixelsBefore s.cfg x y w h buf k) (s.begin (.pushPixels x y w h buf))

section
variable {x y w h : Half} {buf : Word} {k : Nat} {s : State}

theorem atElement_base : SameBase (s.begin (.pushPixels x y w h buf)) (atElement x y w h buf k s) := opsDone_base _ _

theorem atElement_stepIdx :
    (atElement x y w h buf k s).stepIdx = eventCount (pushPixelsBefore s.cfg x y w h buf k) :=
  (opsDone_stepIdx _ _).trans (Nat.zero_add _)

theorem sequenceOf_atElement (hk : k < pixelCount w h) : ∃ post,
    sequenceOf (atElement x y w h buf k s).cfg (.pushPixels x y w h buf) =
      pushPixelsBefore s.cfg x y w h buf k ++ .elemFirst (elementAddr buf k) :: post := by
  rw [atElement_base.cfg]
  exact pushPixelsSeq_split s.cfg x y w h buf hk

/-- On a willing transport push_pixels runs to the first element not admitted by host memory, and waits there. -/
theorem exec_pushPixels_not_admitted {e : Nat → Half} (hbuf : buf.toNat % 2 = 0) (hk : k < pixelCount w h)
    (he : HoldsElements s buf k e) (hacc : Accepts (11 + 2 * k) s)
    (hnone : elementAt (elementAddr buf k) (atElement x y w h buf k s) = none) :
    exec (.pushPixels x y w h buf) s = .next (atElement x y w h buf k s) := by
  have haligned : ¬ misaligned buf = true := by rw [misaligned_iff]; omega
  obtain ⟨post, hseq⟩ := pushPixelsSeq_split s.cfg x y w h buf hk
  obtain ⟨hready, -, -⟩ := sends_pushPixelsBefore x y w h he (s.begin (.pushPixels x y w h buf)) ⟨rfl, rfl, rfl, rfl⟩
  have hrun := runOps_accepts (by rw [byteCount_pushPixelsBefore]; exact hacc) hready
  rw [exec, execPushPixels, if_neg haligned, runRequest, hseq,
    runOps_not_elemReady post hrun (by rw [elemReady, ← atElement, hnone]; rfl)]
  rfl

end

/-- Settles O40: the window bytes and the elements before element `k` are sent, and element `k` is not ready, neither then
nor at the next step. -/
theorem unadmittedElementLeavesTheBlockStuck : Obligations.UnadmittedElementLeavesTheBlockStuck := by
  intro x y w h buf s e k hready hbuf hk he hmem hacc
  obtain ⟨-, hfault, hrefused, hinput⟩ := hready
  have hbase : SameBase (s.begin (.pushPixels x y w h buf)) (atElement x y w h buf k s) := atElement_base
  obtain ⟨-, htrace, hlike⟩ := sends_pushPixelsBefore x y w h he (s.begin (.pushPixels x y w h buf)) ⟨rfl, rfl, rfl, rfl⟩
  have hnone : elementAt (elementAddr buf k) (atElement x y w h buf k s) = none := by
    rw [atElement, hlike.elementAt_eq]
    exact readElement_eq_none (by rwa [elementAddr_toNat, elementAddr_add_one_toNat])
  obtain ⟨post, hseq⟩ := sequenceOf_atElement (x := x) (y := y) (buf := buf) (s := s) hk
  refine ⟨_, exec_pushPixels_not_admitted hbuf hk he hacc hnone, ?_, ?_, ?_, ?_⟩
  · rw [State.busy, hbase.req]; rfl
  · rw [atElement_stepIdx, eventCount_pushPixelsBefore]
  · rw [atElement, htrace, List.append_assoc]; rfl
  · calc step (atElement x y w h buf k s) = proceed (atElement x y w h buf k s) := by
          rw [step, stepWith, hbase.input.trans hinput]
      _ = resume (.pushPixels x y w h buf) (atElement x y w h buf k s) :=
        proceed_of_req (hbase.fault.trans hfault) (hbase.refused.trans hrefused) hbase.req
      _ = .fault .memoryNotAdmitted := resume_not_admitted hseq atElement_stepIdx hnone

end Sys2Proof.Machine
end

section
/-! The request encoding (R63 to R72, R78): what a row of the opcode map says of its format, which words 0 it matches, and
from both what the decoder answers, that decoding and encoding undo each other, and what a ready block does with the
answer. -/

namespace Sys2Proof.Machine

/-! ### Word 0 in its format (R66) -/

/-- The OP values whose word 0 carries no operand (R69). -/
def plainOps : List Nat := [0x01, 0x03, 0x05, 0x08, 0x0A, 0x0B, 0x0C]

/-- The OP values whose word 0 carries an operand in A8 (R69). -/
def a8Ops : List Nat := [0x02, 0x04, 0x0D, 0x0E]

/-- The OP values whose word 0 carries an operand in C16 (R69). -/
def c16Ops : List Nat := [0x06, 0x07, 0x09]

theorem not_mem_of_mem_plainOps : ∀ n ∈ plainOps, n ∉ a8Ops ∧ n ∉ c16Ops := by decide

theorem not_mem_of_mem_a8Ops : ∀ n ∈ a8Ops, n ∉ plainOps ∧ n ∉ c16Ops := by decide

theorem not_mem_of_mem_c16Ops : ∀ n ∈ c16Ops, n ∉ plainOps ∧ n ∉ a8Ops := by decide

theorem assigned_of_mem : ∀ n ∈ plainOps ++ a8Ops ++ c16Ops, ¬ (n = 0 ∨ 0x0F ≤ n) := by decide

/-- The reserved fields of word 0, in its three fields (R66). -/
theorem reservedNonzero_iff (w : Word) : ReservedNonzero w ↔
    ((opField w).toNat ∈ plainOps ∧ ¬ (highHalf w = 0 ∧ a8Field w = 0)) ∨
    ((opField w).toNat ∈ a8Ops ∧ highHalf w ≠ 0) ∨
    ((opField w).toNat ∈ c16Ops ∧ a8Field w ≠ 0) := by
  have hc : highHalf w = 0 ↔ w.toNat / 65536 = 0 := by
    rw [← BitVec.toNat_inj, highHalf_toNat]; rfl
  have ha : a8Field w = 0 ↔ w.toNat / 256 % 256 = 0 := by
    rw [← BitVec.toNat_inj, a8Field_toNat]; rfl
  have hall : w.toNat / 256 = 0 ↔ w.toNat / 65536 = 0 ∧ w.toNat / 256 % 256 = 0 := by omega
  rw [ReservedNonzero, opField_toNat, Ne, Ne, Ne, hall, Ne, Ne, hc, ha]
  rfl

theorem unassignedOp_iff (w : Word) : UnassignedOp w ↔ rowOf (opField w) = none := by
  rw [← Option.not_isSome_iff_eq_none, rowOf_isSome, opField_toNat, UnassignedOp]
  simp only [Bool.and_eq_true, decide_eq_true_eq]
  omega

section
variable {w : Word} {o : Byte}

/-- A format without a word 0 operand fixes all of word 0. -/
theorem and_all_eq_iff (ho : opField w = o) : w &&& 0xFFFFFFFF = word0 0 0 o ↔ highHalf w = 0 ∧ a8Field w = 0 := by
  rw [← word0_fields w, word0_and_all, word0_inj]
  simp [ho]

/-- A format with an A8 operand fixes C16 and OP. -/
theorem and_noA8_eq_iff (ho : opField w = o) : w &&& 0xFFFF00FF = word0 0 0 o ↔ highHalf w = 0 := by
  rw [← word0_fields w, word0_and_noA8, word0_inj]
  simp [ho]

/-- A format with a C16 operand fixes A8 and OP. -/
theorem and_noC16_eq_iff (ho : opField w = o) : w &&& 0x0000FFFF = word0 0 0 o ↔ a8Field w = 0 := by
  rw [← word0_fields w, word0_and_noC16, word0_inj]
  simp [ho]

end

/-! ### The rows of the opcode map (R69) -/

/-- Every row has its pattern, the mask of one of the three formats, and the number of words of the column. -/
theorem opTable_formats : ∀ r ∈ opTable, r.pattern = word0 0 0 r.op ∧ r.words = wordsColumn r.op.toNat ∧
    (r.mask = 0xFFFFFFFF ∧ r.op.toNat ∈ plainOps ∨
      r.mask = 0xFFFF00FF ∧ r.op.toNat ∈ a8Ops ∨
      r.mask = 0x0000FFFF ∧ r.op.toNat ∈ c16Ops) := by
  decide

theorem words_le_four : ∀ r ∈ opTable, r.words ≤ 4 := by decide

/-- A row builds a request of its OP. -/
theorem opcodeOf_build {r : OpRow} (hr : r ∈ opTable) (w0 w1 w2 w3 : Word) : opcodeOf (r.build w0 w1 w2 w3) = r.op := by
  revert r
  simp [opTable, opcodeOf]

theorem rowOf_eq_some {op : Byte} {r : OpRow} (h : rowOf op = some r) : r ∈ opTable ∧ r.op = op :=
  ⟨List.mem_of_find?_eq_some h, by simpa using List.find?_some h⟩

/-- Word 0 matches the row of its OP where every reserved field is zero (R70). -/
theorem matches_row_iff {w : Word} {r : OpRow} (h : rowOf (opField w) = some r) :
    w &&& r.mask = r.pattern ↔ ¬ ReservedNonzero w := by
  obtain ⟨hmem, hop⟩ := rowOf_eq_some h
  obtain ⟨hpat, -, ⟨hmask, hin⟩ | ⟨hmask, hin⟩ | ⟨hmask, hin⟩⟩ := opTable_formats r hmem
  all_goals
    rw [hmask, hpat, hop, reservedNonzero_iff]
    rw [hop] at hin
  · rw [and_all_eq_iff rfl]
    simp [hin, not_mem_of_mem_plainOps _ hin]
  · rw [and_noA8_eq_iff rfl]
    simp [hin, not_mem_of_mem_a8Ops _ hin]
  · rw [and_noC16_eq_iff rfl]
    simp [hin, not_mem_of_mem_c16Ops _ hin]

/-! ### What the decoder answers (R70 to R72) -/

section
variable {w : Word}

theorem decode_of_unassigned (h : UnassignedOp w) (rest : List Word) : decode (w :: rest) = .illegal w := by
  rw [decode, (unassignedOp_iff w).1 h]

/-- An OP outside the map has no format, so a word 0 with a nonzero reserved field has a row. -/
theorem assigned_of_reservedNonzero (h : ReservedNonzero w) : ¬ UnassignedOp w := by
  refine assigned_of_mem _ ?_
  obtain ⟨hin, -⟩ | ⟨hin, -⟩ | ⟨hin, -⟩ := h
  · exact List.mem_append_left _ (List.mem_append_left _ hin)
  · exact List.mem_append_left _ (List.mem_append_right _ hin)
  · exact List.mem_append_right _ hin

theorem exists_rowOf (h : ¬ UnassignedOp w) : ∃ r, rowOf (opField w) = some r :=
  Option.ne_none_iff_exists'.1 fun hn => h ((unassignedOp_iff w).2 hn)

theorem decode_of_reservedNonzero (h : ReservedNonzero w) (rest : List Word) : decode (w :: rest) = .illegal w := by
  obtain ⟨r, hr⟩ := exists_rowOf (assigned_of_reservedNonzero h)
  have hm : ¬ (w &&& r.mask = r.pattern) := fun hm => (matches_row_iff hr).1 hm h
  simp only [decode, hr, if_neg hm]

section
variable {r : OpRow} (hr : rowOf (opField w) = some r) (hm : w &&& r.mask = r.pattern) (rest : List Word)
include hr hm

theorem decode_of_missing (hn : rest.length + 1 < r.words) :
    decode (w :: rest) = .needMore (r.words - (rest.length + 1)) := by
  simp only [decode, hr, if_pos hm, if_pos hn]

theorem decode_of_present (hn : r.words ≤ rest.length + 1) :
    decode (w :: rest) = .decoded (r.build w (rest.getD 0 0) (rest.getD 1 0) (rest.getD 2 0)) r.words := by
  simp only [decode, hr, if_pos hm, if_neg (Nat.not_lt.2 hn)]

end

end

/-- What the decoder has seen where it decodes a request. -/
theorem decode_decoded {ws : List Word} {i : Instr} {n : Nat} (h : decode ws = .decoded i n) :
    ∃ w rest r, ws = w :: rest ∧ rowOf (opField w) = some r ∧ w &&& r.mask = r.pattern ∧ r.words ≤ rest.length + 1 ∧
      i = r.build w (rest.getD 0 0) (rest.getD 1 0) (rest.getD 2 0) ∧ n = r.words := by
  unfold decode at h
  split at h
  · cases h
  · rename_i w rest
    split at h
    · cases h
    · rename_i r hr
      split at h
      · rename_i hm
        split at h
        · cases h
        · rename_i hn
          cases h
          exact ⟨w, rest, r, rfl, hr, hm, Nat.not_lt.1 hn, rfl, rfl⟩
      · cases h

/-! ### Decoding and encoding undo each other (R66, R67, R69) -/

theorem decode_word0 {c : Half} {a o : Byte} {r : OpRow} (rest : List Word) (hr : rowOf o = some r)
    (hm : word0 c a o &&& r.mask = r.pattern) (hn : r.words ≤ rest.length + 1) :
    decode (word0 c a o :: rest) =
      .decoded (r.build (word0 c a o) (rest.getD 0 0) (rest.getD 1 0) (rest.getD 2 0)) r.words :=
  decode_of_present (by rwa [opField_word0]) hm rest hn

/-- Settles O7: word 0 of each request matches the row of its OP, and the row takes the operands from where they were
put. -/
theorem decodeAfterEncodeGivesTheRequest : Obligations.DecodeAfterEncodeGivesTheRequest := by
  intro i rest _
  cases i with
  | initialise | setCursor x y | pushPixels x y w h buf | setAddrWindow x y w h | dcInit | dcLow | dcHigh =>
    refine (decode_word0 _ rfl (word0_and_all _ _ _) (by simp)).trans ?_
    simp [encode]
  | setRotation b | writeText b textaddr | writeCommand b | spiWrite b =>
    refine (decode_word0 _ rfl (word0_and_noA8 _ _ _) (by simp)).trans ?_
    simp [encode]
  | writePixel color | writeColor color count | writeFillRect x y w h color =>
    refine (decode_word0 _ rfl (word0_and_noC16 _ _ _) (by simp)).trans ?_
    simp [encode]

/-- A row builds from the words of a legal request the request these words encode. -/
theorem encode_build {c : Half} {a : Byte} (w1 w2 w3 : Word) : ∀ r ∈ opTable, ¬ ReservedNonzero (word0 c a r.op) →
    encode (r.build (word0 c a r.op) w1 w2 w3) = [word0 c a r.op, w1, w2, w3].take r.words := by
  simp only [reservedNonzero_iff, opField_word0, highHalf_word0, a8Field_word0]
  simp +contextual [opTable, plainOps, a8Ops, c16Ops, encode, pairWord_halves]

/-- The operand words a row is given are the words of the port where they are all there. -/
theorem take_operands {w : Word} {rest : List Word} {n : Nat} (hn : n ≤ rest.length + 1) (h4 : n ≤ 4) :
    [w, rest.getD 0 0, rest.getD 1 0, rest.getD 2 0].take n = (w :: rest).take n := by
  have hpad : [w, rest.getD 0 0, rest.getD 1 0, rest.getD 2 0] = ((w :: rest) ++ [0, 0, 0]).take 4 := by
    obtain _ | ⟨_, _ | ⟨_, _ | _⟩⟩ := rest <;> rfl
  rw [hpad, List.take_take, Nat.min_eq_left h4, List.take_append_of_le_length hn]

/-- Settles O8: the words the decoder has read are those the row it matched encodes. -/
theorem encodeAfterDecodeGivesTheWords : Obligations.EncodeAfterDecodeGivesTheWords := by
  intro ws i n h
  obtain ⟨w, rest, r, rfl, hr, hm, hn, rfl, rfl⟩ := decode_decoded h
  obtain ⟨hmem, hop⟩ := rowOf_eq_some hr
  have hlegal := (matches_row_iff hr).1 hm
  have hw : word0 (highHalf w) (a8Field w) r.op = w := by rw [hop, word0_fields]
  have hbuild := encode_build (c := highHalf w) (a := a8Field w) (rest.getD 0 0) (rest.getD 1 0) (rest.getD 2 0) r hmem
  rw [hw] at hbuild
  exact ⟨(hbuild hlegal).trans (take_operands hn (words_le_four r hmem)), hn⟩

/-- Settles O6: a legal word 0 matches the row of its OP, and the row has the words of the column and builds requests of
that OP. -/
theorem requestLengthIsAFunctionOfTheOp : Obligations.RequestLengthIsAFunctionOfTheOp := by
  intro w rest hassigned hlegal
  obtain ⟨r, hr⟩ := exists_rowOf hassigned
  obtain ⟨hmem, hop⟩ := rowOf_eq_some hr
  obtain ⟨-, hwords, -⟩ := opTable_formats r hmem
  have hm := (matches_row_iff hr).2 hlegal
  rw [← opField_toNat, ← hop, ← hwords]
  exact ⟨decode_of_missing hr hm rest, fun hn => ⟨_, decode_of_present hr hm rest hn, by rw [opcodeOf_build hmem]⟩⟩

/-- Settles O9: the decoder run on the words. -/
theorem sampleWordsDecodeToTheirRequests : Obligations.SampleWordsDecodeToTheirRequests := by
  unfold Obligations.SampleWordsDecodeToTheirRequests
  decide

/-! ### What a ready block does with the answer (R63, R70 to R72) -/

section
variable {s : State} (h : Ready s)
include h

theorem step_of_ready : step s = acceptRequest s := by
  obtain ⟨⟨hreq, -⟩, hfault, hrefused, hinput⟩ := h
  rw [step, stepWith, hinput]
  simp only [proceed, hfault, hrefused, hreq]

theorem step_of_illegal {w : Word} {rest : List Word} (hport : s.port = w :: rest)
    (hw : decode (w :: rest) = .illegal w) :
    step s = .next { s with port := rest, fault := some (.illegalRequest, w) } := by
  have hconsume : consumeWords 1 s = { s with port := rest } := by rw [consumeWords, hport]; rfl
  have hidle : Idle { s with port := rest } := h.1
  rw [step_of_ready h, acceptRequest, fetchRequest, hport, hw]
  simp only [hconsume, raise_of_idle hidle]

end

/-- Settles O2: the block fetches what its port decodes to. -/
theorem stepExecutesTheDecodedRequest : Obligations.StepExecutesTheDecodedRequest := by
  intro s i n hready hdecode _
  rw [step_of_ready hready, acceptRequest, fetchRequest, hdecode]
  rfl

/-- Settles O3: the block waits where words are missing. -/
theorem stepWaitsForMissingWords : Obligations.StepWaitsForMissingWords := by
  intro s k hready hdecode
  rw [step_of_ready hready, acceptRequest, fetchRequest, hdecode]

/-- Settles O4: an unassigned OP has no row, so its word 0 is illegal. -/
theorem unassignedOpFaultsAndConsumesOneWord : Obligations.UnassignedOpFaultsAndConsumesOneWord :=
  fun _ _ rest hready hport hw => step_of_illegal hready hport (decode_of_unassigned hw rest)

/-- Settles O5: a nonzero reserved field keeps word 0 from its row, so it is illegal. -/
theorem nonzeroReservedFieldFaults : Obligations.NonzeroReservedFieldFaults :=
  fun _ _ rest hready hport hw => step_of_illegal hready hport (decode_of_reservedNonzero hw rest)

end Sys2Proof.Machine
end

section
/-! Requests in order as one sequence (R32, R59, R82): no operation reads which request it belongs to or its position in it,
so requests run in order end where their sequences, put one after the other, end. From it, that the raw window commands end
in the state set_addr_window ends in (R117). -/

namespace Sys2Proof.Machine

/-! ### The position is read by no operation -/

/-- The state with another request in flight and another position in it. -/
def State.moved (r : Option Instr) (k : Nat) (s : State) : State := { s with req := r, stepIdx := k }

section
variable (r : Option Instr) (k : Nat) (s : State)

@[simp] theorem State.moved_cfg : (s.moved r k).cfg = s.cfg := rfl
@[simp] theorem State.moved_proto : (s.moved r k).proto = s.proto := rfl
@[simp] theorem State.moved_dcCfg : (s.moved r k).dcCfg = s.dcCfg := rfl
@[simp] theorem State.moved_idle : (s.moved r k).idle = s.idle := rfl
@[simp] theorem effLevel_moved : effLevel (s.moved r k) = effLevel s := rfl
@[simp] theorem elementAt_moved (a : Word) : elementAt a (s.moved r k) = elementAt a s := rfl

theorem State.markIf_moved (p : Bool) (v : Violation) : (s.moved r k).markIf p v = (s.markIf p v).moved r k := by
  cases p <;> rfl

theorem driveDc_moved (l : DcLevel) : driveDc l (s.moved r k) = (driveDc l s).moved r k := by
  unfold driveDc
  rw [apply_ite (State.moved r k)]; rfl

theorem releaseDc_moved : releaseDc (s.moved r k) = (releaseDc s).moved r k := by
  unfold releaseDc
  rw [apply_ite (State.moved r k)]; rfl

theorem markLevel_moved : markLevel (s.moved r k) = (markLevel s).moved r k := by
  unfold markLevel
  rw [State.markIf_moved, State.markIf_moved]; rfl

theorem forgetRange_moved (op : Byte) : forgetRange op (s.moved r k) = (forgetRange op s).moved r k := by
  unfold forgetRange
  rw [apply_ite (State.moved r k)]; rfl

theorem closeContext_moved : closeContext (s.moved r k) = (closeContext s).moved r k := by
  rcases hp : s.proto with _ | ⟨c, acc⟩ | _ | n <;> simp only [closeContext, State.moved_proto, State.moved_cfg, hp]
  · rw [apply_ite (State.moved r k), ← forgetRange_moved]; rfl
  · exact State.markIf_moved r k s _ _

theorem openContext_moved (b : Byte) : openContext b (s.moved r k) = (openContext b s).moved r k := by
  have hstream : openStream (s.moved r k) = (openStream s).moved r k := by
    unfold openStream
    rw [State.markIf_moved]; rfl
  unfold openContext
  rw [apply_ite (State.moved r k), apply_ite (State.moved r k), hstream]; rfl

theorem latchRange_moved (op : Byte) (acc : List Byte) :
    latchRange op acc (s.moved r k) = (latchRange op acc s).moved r k := by
  unfold latchRange
  split
  · unfold setRange
    rw [apply_ite (State.moved r k)]; rfl
  · rfl

theorem trackData_moved (b : Byte) : trackData b (s.moved r k) = (trackData b s).moved r k := by
  have hcapture (c : Byte) (acc : List Byte) :
      captureParam c acc b (s.moved r k) = (captureParam c acc b s).moved r k := by
    unfold captureParam
    rw [apply_ite (State.moved r k), ← latchRange_moved]; rfl
  rcases hp : s.proto with _ | ⟨c, acc⟩ | _ | _ | n <;>
    simp only [trackData, State.moved_proto, State.moved_cfg, hp]
  · rfl
  · rw [apply_ite (State.moved r k), hcapture]; rfl
  · rfl
  · rfl

theorem track_moved (l : DcLevel) (b : Byte) : track l b (s.moved r k) = (track l b s).moved r k := by
  cases l with
  | low => simp only [track, closeContext_moved, openContext_moved]
  | high => exact trackData_moved r k s b
  | undef => rfl

theorem sentByte_moved (l : DcLevel) (b : Byte) : sentByte l b (s.moved r k) = (sentByte l b s).moved r (k + 1) :=
  congrArg State.advance (track_moved r k (record (.byte l b) (takeByte s)) l b)

theorem byteLevel_moved (o : Op) : byteLevel o (s.moved r k) = byteLevel o s := by
  cases o <;> simp only [byteLevel, driveDc_moved, effLevel_moved]

theorem opByte_moved (o : Op) : opByte o (s.moved r k) = opByte o s := by
  cases o <;> rfl

theorem opWait_moved (o : Op) : opWait o (s.moved r k) = (opWait o s).moved r k := by
  have hdrive (l : DcLevel) (t : State) : markLevel (driveDc l (t.moved r k)) = (markLevel (driveDc l t)).moved r k := by
    rw [driveDc_moved, markLevel_moved]
  cases o with
  | command b | data b => exact hdrive _ s
  | raw b => exact markLevel_moved r k s
  | elemFirst a | elemSecond a =>
    simp only [opWait, elementAt_moved]
    split
    · rename_i v _
      exact hdrive _ { s with elem := some v }
    · rfl
  | _ => rfl

theorem afterByte_moved (o : Op) : afterByte o (s.moved r k) = (afterByte o s).moved r k := by
  cases o with
  | command b => exact releaseDc_moved r k s
  | _ => rfl

theorem opDone_moved (o : Op) :
    opDone o (s.moved r k) = (opDone o s).moved r (k + if o.isEvent then 1 else 0) := by
  cases hb : o.isByte with
  | true =>
    rw [opDone_of_isByte hb, opDone_of_isByte hb, byteLevel_moved, opByte_moved, opWait_moved, sentByte_moved,
      afterByte_moved, if_pos (Op.isEvent_of_isByte hb)]
  | false =>
    cases o with
    | driveDc l => exact driveDc_moved r k s l
    | drawingCheck | streamCheck n => exact State.markIf_moved r k s _ _
    | command b | data b | raw b | elemFirst a | elemSecond a => cases hb
    | _ => rfl

end

theorem opsDone_moved (ops : List Op) (r : Option Instr) (k : Nat) (s : State) :
    opsDone ops (s.moved r k) = (opsDone ops s).moved r (k + eventCount ops) := by
  induction ops generalizing s k with
  | nil => rfl
  | cons o rest ih => rw [opsDone_cons, opsDone_cons, opDone_moved, ih, eventCount_cons, Nat.add_assoc]

/-! ### Requests in order -/

/-- The operations that read host memory. -/
def Op.readsElement : Op → Bool
  | .elemFirst _ => true
  | .elemSecond _ => true
  | _ => false

theorem elemReady_of_not_readsElement {o : Op} (h : o.readsElement = false) (s : State) : elemReady o s = true := by
  cases o with
  | elemFirst a | elemSecond a => cases h
  | _ => rfl

theorem opDone_elem {o : Op} (h : o.readsElement = false) (s : State) : (opDone o s).elem = s.elem := by
  cases o with
  | elemFirst a | elemSecond a => cases h
  | _ => simp [opDone, sentByte, takeByte, waitEvent]

theorem opsDone_elem {ops : List Op} (h : ∀ o ∈ ops, o.readsElement = false) (s : State) :
    (opsDone ops s).elem = s.elem := by
  induction ops generalizing s with
  | nil => rfl
  | cons o rest ih =>
    rw [List.forall_mem_cons] at h
    rw [opsDone_cons, ih h.2, opDone_elem h.1]

theorem accepts_opsDone {ops : List Op} {n : Nat} {s : State} (h : Accepts (byteCount ops + n) s) :
    Accepts n (opsDone ops s) := by
  induction ops generalizing s with
  | nil => rwa [show byteCount [] + n = n from Nat.zero_add n] at h
  | cons o rest ih => exact ih (accepts_opDone (by rwa [byteCount_cons, Nat.add_assoc] at h))

/-- A request that is its sequence, and reads no element of host memory in it. -/
structure RunsAlone (c : Config) (i : Instr) : Prop where
  exec_eq : ∀ s, s.cfg = c → exec i s = runRequest i (sequenceOf c i) s
  readsElement : ∀ o ∈ sequenceOf c i, o.readsElement = false

section
variable {i : Instr} {s : State} (hi : RunsAlone s.cfg i)
include hi

/-- A request does not see what was in flight before it. -/
theorem RunsAlone.exec_idle : exec i s.idle = exec i s := by
  rw [hi.exec_eq s rfl, hi.exec_eq s.idle rfl]; rfl

theorem RunsAlone.exec_accepts (helem : s.elem = none) (hacc : Accepts (byteCount (sequenceOf s.cfg i)) s) :
    exec i s = .next (opsDone (sequenceOf s.cfg i) s).idle := by
  have hbegin : s.begin i = s.moved (some i) 0 := by rw [State.begin, State.moved, helem]
  have hready := elemsReady_of_all fun o ho => elemReady_of_not_readsElement (hi.readsElement o ho)
  rw [hi.exec_eq s rfl, runRequest_accepts hacc (hready _), hbegin, opsDone_moved, State.moved_idle]

end

/-- Requests in order end where their sequences, put one after the other, end (R32, R59). -/
theorem execAll_idle {is : List Instr} {s : State} (hi : ∀ i ∈ is, RunsAlone s.cfg i) (helem : s.elem = none)
    (hacc : Accepts (byteCount (is.flatMap (sequenceOf s.cfg))) s) :
    execAll is s.idle = .next (opsDone (is.flatMap (sequenceOf s.cfg)) s).idle := by
  induction is generalizing s with
  | nil => rfl
  | cons i rest ih =>
    rw [List.forall_mem_cons] at hi
    obtain ⟨hfirst, hrest⟩ := hi
    rw [List.flatMap_cons, byteCount_append] at hacc
    have hcfg : (opsDone (sequenceOf s.cfg i) s).cfg = s.cfg := (opsDone_base _ s).cfg
    have helem' := (opsDone_elem hfirst.readsElement s).trans helem
    have hstep := hfirst.exec_accepts helem fun m hm => (Nat.le_add_right _ _).trans (hacc m hm)
    have hih := ih (hcfg.symm ▸ hrest) helem' (by rw [hcfg]; exact accepts_opsDone hacc)
    rw [hcfg] at hih
    rw [execAll, hfirst.exec_idle, hstep, List.flatMap_cons, opsDone_append]
    exact hih

/-- The same from any state: what was in flight before is not seen. -/
theorem execAll_cons {i : Instr} {is : List Instr} {s : State} (hi : ∀ j ∈ i :: is, RunsAlone s.cfg j)
    (hacc : Accepts (byteCount ((i :: is).flatMap (sequenceOf s.cfg))) s) :
    execAll (i :: is) s = .next (opsDone ((i :: is).flatMap (sequenceOf s.cfg)) s.idle).idle := by
  have hidle : execAll (i :: is) s.idle = execAll (i :: is) s := by
    rw [execAll, execAll, (hi i List.mem_cons_self).exec_idle]
  rw [← hidle]
  exact execAll_idle (s := s.idle) hi rfl hacc

theorem runsAlone_writeCommand (c : Config) (op : Byte) : RunsAlone c (.writeCommand op) :=
  ⟨fun _ _ => rfl, by simp [sequenceOf, writeCommandSeq, Op.readsElement]⟩

theorem runsAlone_dcHigh (c : Config) : RunsAlone c .dcHigh :=
  ⟨fun _ _ => rfl, by simp [sequenceOf, dcHighSeq, Op.readsElement]⟩

theorem runsAlone_spiWrite (c : Config) (b : Byte) : RunsAlone c (.spiWrite b) :=
  ⟨fun _ _ => rfl, by simp [sequenceOf, spiWriteSeq, Op.readsElement]⟩

theorem runsAlone_setAddrWindow (c : Config) (x y w h : Half) : RunsAlone c (.setAddrWindow x y w h) :=
  ⟨fun _ hs => by rw [← hs]; rfl, by simp [sequenceOf, setAddrWindowSeq, windowOps, rangeOps, Op.readsElement]⟩

/-! ### A raw command is the command (R82, R87, R88) -/

/-- The pin stands at a level already, or is not configured and that is marked already. -/
theorem driveDc_eq_self_iff {l : DcLevel} {s : State} :
    driveDc l s = s ↔ if s.dcCfg then s.dc = l else s.viol.has .dcUnconfigured = true := by
  unfold driveDc
  split
  · exact ⟨fun h => (congrArg State.dc h).symm, fun h => by rw [← h]⟩
  · exact ⟨fun h => by rw [← h]; simp, fun h => by rw [State.mark, Marks.add_of_has h]⟩

theorem driveDc_driveDc (l : DcLevel) (s : State) : driveDc l (driveDc l s) = driveDc l s := by
  rw [driveDc_eq_self_iff, driveDc_dcCfg, driveDc_dc, driveDc_viol]
  split <;> simp

/-- A raw byte leaves the pin as it is driven (R94). -/
theorem driveDc_opDone_raw {l : DcLevel} {s : State} (b : Byte) (h : driveDc l s = s) :
    driveDc l (opDone (.raw b) s) = opDone (.raw b) s := by
  have hdcCfg : (opDone (.raw b) s).dcCfg = s.dcCfg := (opDone_panel rfl s).dcCfg
  have hdc : (opDone (.raw b) s).dc = s.dc := by simp [opDone, sentByte, takeByte]
  rw [driveDc_eq_self_iff] at h ⊢
  rw [hdcCfg, hdc]
  revert h
  split
  · exact id
  · exact (opDone_sticky _ s).viol _

theorem opDone_data (b : Byte) (s : State) : opDone (.data b) s = opDone (.raw b) (driveDc .high s) := rfl

/-- While the pin is driven High, raw bytes are data bytes (R88). -/
theorem opsDone_raw {bs : List Byte} {s : State} (h : driveDc .high s = s) :
    opsDone (bs.map .raw) s = opsDone (bs.map .data) s := by
  induction bs generalizing s with
  | nil => rfl
  | cons b bs ih =>
    rw [List.map_cons, List.map_cons, opsDone_cons, opsDone_cons, opDone_data, h]
    exact ih (driveDc_opDone_raw b h)

/-- A command with its parameters sent raw is the command with its data bytes (R82). -/
theorem opsDone_commandWithParams (c : Config) (op : Byte) (bs : List Byte) (s : State) :
    opsDone ((commandWithParams op bs).flatMap (sequenceOf c)) s = opsDone (.command op :: bs.map .data) s := by
  cases bs with
  | nil => rfl
  | cons b bs =>
    have hseq : (commandWithParams op (b :: bs)).flatMap (sequenceOf c) =
        .command op :: .driveDc .high :: (b :: bs).map .raw := by
      simp [commandWithParams, writeParams, sequenceOf, writeCommandSeq, dcHighSeq, spiWriteSeq, List.flatMap_map,
        ← List.map_eq_flatMap]
    have hhigh (t : State) : opsDone (.driveDc .high :: (b :: bs).map .raw) t = opsDone ((b :: bs).map .data) t :=
      calc opsDone ((b :: bs).map .raw) (driveDc .high t)
        _ = opsDone ((b :: bs).map .data) (driveDc .high t) := opsDone_raw (driveDc_driveDc .high t)
        _ = opsDone ((b :: bs).map .data) t := by
          rw [List.map_cons, opsDone_cons, opsDone_cons, opDone_data, opDone_data, driveDc_driveDc]
    rw [hseq]
    exact hhigh (opDone (.command op) s)

theorem runsAlone_commandWithParams (c : Config) (op : Byte) (bs : List Byte) :
    ∀ i ∈ commandWithParams op bs, RunsAlone c i := by
  cases bs <;> simp [commandWithParams, writeParams, runsAlone_writeCommand, runsAlone_dcHigh, runsAlone_spiWrite]

/-! ### The window commands sent raw (R116, R117) -/

/-- Column command, page command and memory-write command, sent raw. -/
def rawWindow (c : Config) (x y w h : Half) : List Instr :=
  commandWithParams c.opCaset [hiByte x, loByte x, hiByte (endOf x w), loByte (endOf x w)] ++
    commandWithParams c.opPaset [hiByte y, loByte y, hiByte (endOf y h), loByte (endOf y h)] ++
    commandWithParams c.opRamwr []

section
variable (c : Config) (x y w h : Half)

theorem runsAlone_rawWindow : ∀ i ∈ rawWindow c x y w h, RunsAlone c i := by
  simp only [rawWindow, List.forall_mem_append]
  exact ⟨⟨runsAlone_commandWithParams c _ _, runsAlone_commandWithParams c _ _⟩, runsAlone_commandWithParams c _ _⟩

theorem opsDone_rawWindow (s : State) :
    opsDone ((rawWindow c x y w h).flatMap (sequenceOf c)) s = opsDone (windowOps c x y w h) s := by
  simp only [rawWindow, List.flatMap_append, opsDone_append, opsDone_commandWithParams, windowOps, windowEnd_eq_endOf]
  rfl

/-- After initialization the check of set_addr_window marks nothing (R123). -/
theorem opsDone_setAddrWindowSeq {s : State} (hinit : s.initDone = true) :
    opsDone (setAddrWindowSeq c x y w h) s = opsDone (windowOps c x y w h) s := by
  have hcheck : opDone .drawingCheck s = s := by simp [opDone, drawingCheck, State.markIf, hinit]
  rw [setAddrWindowSeq, opsDone_cons, hcheck]

end

/-- Settles O30: both sides run the window bytes. -/
theorem rawWindowSequenceEqualsSetAddrWindow : Obligations.RawWindowSequenceEqualsSetAddrWindow := by
  intro x y w h s hinit hacc
  have hset := runsAlone_setAddrWindow s.cfg x y w h
  calc execAll (rawWindow s.cfg x y w h) s
    _ = .next (opsDone ((rawWindow s.cfg x y w h).flatMap (sequenceOf s.cfg)) s.idle).idle :=
      execAll_cons (runsAlone_rawWindow s.cfg x y w h) hacc
    _ = .next (opsDone (setAddrWindowSeq s.cfg x y w h) s.idle).idle := by
      rw [opsDone_rawWindow, opsDone_setAddrWindowSeq (s := s.idle) _ _ _ _ _ hinit]
    _ = exec (.setAddrWindow x y w h) s.idle := (hset.exec_accepts (s := s.idle) rfl hacc).symm
    _ = exec (.setAddrWindow x y w h) s := hset.exec_idle

end Sys2Proof.Machine
end

section
/-! The transport requests (R85 to R96): the tracker reads its own fields, the parameters and the geometry alone, so what
a byte does to it is said for the state the request is given; from it what dc_init, dc_low, dc_high, write_command,
spi_write and their sequences do, and which requests can emit a byte at level Undef. -/

namespace Sys2Proof.Machine

/-! ### What the tracker reads -/

/-- The state `s` as the tracker sees it, with everything the tracker does not read taken from `x`. -/
def State.trackedIn (s x : State) : State :=
  { x with
    cfg := s.cfg, width := s.width, height := s.height, proto := s.proto, viol := s.viol
    winSc := s.winSc, winEc := s.winEc, winSp := s.winSp, winEp := s.winEp }

section
variable (s x : State)

theorem State.markIf_trackedIn (p : Bool) (v : Violation) :
    (s.trackedIn x).markIf p v = (s.markIf p v).trackedIn x := by
  cases p <;> rfl

theorem forgetRange_trackedIn (op : Byte) : forgetRange op (s.trackedIn x) = (forgetRange op s).trackedIn x := by
  unfold forgetRange
  rw [apply_ite (State.trackedIn · x)]; rfl

theorem closeContext_trackedIn : closeContext (s.trackedIn x) = (closeContext s).trackedIn x := by
  have hproto : (s.trackedIn x).proto = s.proto := rfl
  rcases hp : s.proto with _ | ⟨c, acc⟩ | _ | n <;> simp only [closeContext, hproto, hp]
  · rw [apply_ite (State.trackedIn · x), ← forgetRange_trackedIn]; rfl
  · exact State.markIf_trackedIn s x _ _

theorem openContext_trackedIn (b : Byte) : openContext b (s.trackedIn x) = (openContext b s).trackedIn x := by
  have hstream : openStream (s.trackedIn x) = (openStream s).trackedIn x := by
    unfold openStream
    rw [State.markIf_trackedIn]; rfl
  unfold openContext
  rw [apply_ite (State.trackedIn · x), apply_ite (State.trackedIn · x), hstream]; rfl

theorem latchRange_trackedIn (op : Byte) (acc : List Byte) :
    latchRange op acc (s.trackedIn x) = (latchRange op acc s).trackedIn x := by
  unfold latchRange
  split
  · unfold setRange
    rw [apply_ite (State.trackedIn · x)]; rfl
  · rfl

theorem trackData_trackedIn (b : Byte) : trackData b (s.trackedIn x) = (trackData b s).trackedIn x := by
  have hproto : (s.trackedIn x).proto = s.proto := rfl
  rcases hp : s.proto with _ | ⟨c, acc⟩ | _ | _ | n <;> simp only [trackData, hproto, hp]
  · rfl
  · unfold captureParam
    rw [apply_ite (State.trackedIn · x), apply_ite (State.trackedIn · x), ← latchRange_trackedIn]; rfl
  · rfl
  · rfl

theorem track_trackedIn (l : DcLevel) (b : Byte) : track l b (s.trackedIn x) = (track l b s).trackedIn x := by
  cases l with
  | low => simp only [track, closeContext_trackedIn, openContext_trackedIn]
  | high => exact trackData_trackedIn s x b
  | undef => rfl

end

/-- The tracker reads the same in both states. -/
structure SameTracker (s t : State) : Prop where
  cfg : t.cfg = s.cfg
  width : t.width = s.width
  height : t.height = s.height
  proto : t.proto = s.proto
  viol : t.viol = s.viol
  winSc : t.winSc = s.winSc
  winEc : t.winEc = s.winEc
  winSp : t.winSp = s.winSp
  winEp : t.winEp = s.winEp

theorem SameTracker.eq_trackedIn {s t : State} (h : SameTracker s t) : t = s.trackedIn t := by
  obtain ⟨hcfg, hwidth, hheight, hproto, hviol, hsc, hec, hsp, hep⟩ := h
  rw [State.trackedIn, ← hcfg, ← hwidth, ← hheight, ← hproto, ← hviol, ← hsc, ← hec, ← hsp, ← hep]

theorem SameTracker.refl (s : State) : SameTracker s s := ⟨rfl, rfl, rfl, rfl, rfl, rfl, rfl, rfl, rfl⟩

theorem sameTracker_begin (i : Instr) (s : State) : SameTracker s (s.begin i) :=
  ⟨rfl, rfl, rfl, rfl, rfl, rfl, rfl, rfl, rfl⟩

theorem SameTracker.withDc {s t : State} (h : SameTracker s t) (l : DcLevel) : SameTracker s { t with dc := l } := by
  obtain ⟨hcfg, hwidth, hheight, hproto, hviol, hsc, hec, hsp, hep⟩ := h
  exact ⟨hcfg, hwidth, hheight, hproto, hviol, hsc, hec, hsp, hep⟩

/-- A byte is accepted: the tracker moves as in the one state, the trace, the transport and the position as in the
other. -/
theorem SameTracker.sentByte_eq {s t : State} (h : SameTracker s t) (l : DcLevel) (b : Byte) :
    sentByte l b t = (track l b s).trackedIn (record (.byte l b) (takeByte t)).advance :=
  calc sentByte l b t
    _ = sentByte l b (s.trackedIn t) := congrArg (sentByte l b) h.eq_trackedIn
    _ = ((track l b s).trackedIn (record (.byte l b) (takeByte t))).advance :=
      congrArg State.advance (track_trackedIn s (record (.byte l b) (takeByte t)) l b)

/-- An accepted byte moves the tracker as it would in the other state (R84, R105). -/
theorem SameTracker.sentByte {s t : State} (h : SameTracker s t) (l : DcLevel) (b : Byte) :
    SameTracker (track l b s) (sentByte l b t) := by
  rw [h.sentByte_eq]
  exact ⟨rfl, rfl, rfl, rfl, rfl, rfl, rfl, rfl, rfl⟩

/-! ### The DC pin (R90 to R92) -/

/-- Settles O10: the one operation of the request is `configureDc`. -/
theorem dcInitConfiguresThePin : Obligations.DcInitConfiguresThePin := fun _ => rfl

theorem driveDc_of_configured {s : State} (h : s.dcCfg = true) (l : DcLevel) : driveDc l s = { s with dc := l } := by
  rw [driveDc, if_pos h]

theorem driveDc_of_unconfigured {s : State} (h : s.dcCfg = false) (l : DcLevel) :
    driveDc l s = s.mark .dcUnconfigured := by
  rw [driveDc, if_neg (by simp [h])]

theorem exec_dcLow (s : State) : exec .dcLow s = .next (driveDc .low (s.begin .dcLow)).idle := rfl

theorem exec_dcHigh (s : State) : exec .dcHigh s = .next (driveDc .high (s.begin .dcHigh)).idle := rfl

/-- Settles O11: both requests are `DriveDc`. -/
theorem dcLowAndDcHighDriveAConfiguredPin : Obligations.DcLowAndDcHighDriveAConfiguredPin := by
  refine ⟨fun s h => ?_, fun s h => ?_⟩
  · have hbegin (i : Instr) : (s.begin i).dcCfg = true := h
    rw [exec_dcLow, exec_dcHigh, driveDc_of_configured (hbegin _), driveDc_of_configured (hbegin _)]
    exact ⟨rfl, rfl⟩
  · have hbegin (i : Instr) : (s.begin i).dcCfg = false := h
    rw [exec_dcLow, exec_dcHigh, driveDc_of_unconfigured (hbegin _), driveDc_of_unconfigured (hbegin _)]
    exact ⟨rfl, rfl⟩

/-! ### One byte (R87, R89, R93, R94) -/

section
variable {s : State}

theorem exec_writeCommand (op : Byte) (h : Accepts 1 s) :
    exec (.writeCommand op) s = .next (opDone (.command op) (s.begin (.writeCommand op))).idle :=
  runRequest_accepts h rfl

theorem exec_spiWrite (b : Byte) (h : Accepts 1 s) :
    exec (.spiWrite b) s = .next (opDone (.raw b) (s.begin (.spiWrite b))).idle :=
  runRequest_accepts h rfl

theorem effLevel_of_configured (h : s.dcCfg = true) : effLevel s = s.dc := if_pos h

theorem effLevel_eq_undef_iff : effLevel s = .undef ↔ s.dcCfg = false ∨ s.dc = .undef := by
  unfold effLevel
  cases s.dcCfg <;> simp

/-- The hazards of a pin that is not configured (R86). -/
theorem markLevel_of_unconfigured (h : s.dcCfg = false) :
    markLevel s = (s.mark .dcUnconfigured).mark .dcIndeterminate := by
  simp [markLevel, State.markIf, effLevel, h]

theorem releaseDc_of_unconfigured (h : s.dcCfg = false) : releaseDc s = s := by
  rw [releaseDc, if_neg (by simp [h])]

/-- A command byte is a raw byte with the pin driven Low, and then released (R87). -/
theorem opDone_command (op : Byte) (s : State) :
    opDone (.command op) s = releaseDc (opDone (.raw op) (driveDc .low s)) := rfl

/-- A raw byte at a driven level is no hazard (R86, R89). -/
theorem opDone_raw_of_driven (h : s.dcCfg = true) (hl : s.dc ≠ .undef) (b : Byte) :
    opDone (.raw b) s = sentByte s.dc b s := by
  rw [opDone, markLevel_of_driven h hl, effLevel_of_configured h]

theorem opDone_raw_of_undef (h : s.dcCfg = false ∨ s.dc = .undef) (b : Byte) :
    opDone (.raw b) s = sentByte .undef b (markLevel s) := by
  rw [opDone, effLevel_eq_undef_iff.2 h]

theorem opDone_raw_dc (b : Byte) (s : State) : (opDone (.raw b) s).dc = s.dc := by
  simp [opDone, sentByte, takeByte]

theorem opDone_raw_trace (b : Byte) (s : State) :
    (opDone (.raw b) s).trace = s.trace ++ [.byte (effLevel s) b] := by
  simp [opDone, sentByte, takeByte]

theorem opDone_command_dc (h : s.dcCfg = true) (op : Byte) : (opDone (.command op) s).dc = .undef := by
  simp [opDone, releaseDc_dc, sentByte, takeByte, h]

/-- Before dc_init a command byte is sent at Undef, and marked (R85, R86). -/
theorem opDone_command_of_unconfigured (h : s.dcCfg = false) (op : Byte) :
    opDone (.command op) s = sentByte .undef op ((s.mark .dcUnconfigured).mark .dcIndeterminate) := by
  have hmark : markLevel (s.mark .dcUnconfigured) = (s.mark .dcUnconfigured).mark .dcIndeterminate := by
    rw [markLevel_of_unconfigured (s := s.mark _) h]
    simp only [State.mark, Marks.add_add]
  rw [opDone_command, driveDc_of_unconfigured h, opDone_raw_of_undef (s := s.mark _) (.inl h), hmark]
  exact releaseDc_of_unconfigured (by simpa [sentByte, takeByte] using h)

/-- The marks of a byte at Undef stay (R33, R86). -/
theorem opDone_raw_has (b : Byte) {v : Violation} (h : (markLevel s).viol.has v = true) :
    (opDone (.raw b) s).viol.has v = true :=
  (sentByte_sticky _ _ _).viol v h

/-- A raw byte at a driven level moves the tracker as a byte at that level (R89, R94). -/
theorem SameTracker.opDone_raw {t : State} (ht : SameTracker s t) (h : t.dcCfg = true) (hl : t.dc ≠ .undef) (b : Byte) :
    SameTracker (track t.dc b s) (opDone (.raw b) t) := by
  rw [opDone_raw_of_driven h hl]
  exact ht.sentByte t.dc b

/-- A command byte on a configured pin moves the tracker as a byte at Low (R87). -/
theorem SameTracker.opDone_command {t : State} (ht : SameTracker s t) (h : t.dcCfg = true) (op : Byte) :
    SameTracker (track .low op s) (opDone (.command op) t) := by
  have hsent : SameTracker (track .low op s) (opDone (.raw op) { t with dc := .low }) :=
    (ht.withDc .low).opDone_raw h nofun op
  rw [Machine.opDone_command, driveDc_of_configured h, releaseDc]
  split
  · exact hsent.withDc .undef
  · exact hsent

end

/-- Settles O12: the tracker sees the opcode at Low in the context the request found, and at Undef before dc_init. -/
theorem writeCommandSendsOneCommandByte : Obligations.WriteCommandSendsOneCommandByte := by
  intro op s hacc
  have htrace : (opDone (.command op) (s.begin (.writeCommand op))).trace = s.trace ++ [cmdEvent s op] :=
    (sends_command op (s.begin (.writeCommand op)) _ ⟨rfl, rfl, rfl, rfl⟩).2.1
  refine ⟨_, exec_writeCommand op hacc, rfl, htrace, fun hc => ?_, fun hc => ?_⟩
  · have ht := (sameTracker_begin (.writeCommand op) s).opDone_command hc op
    exact ⟨opDone_command_dc (s := s.begin _) hc op, ht.viol, ht.proto, ht.winSc, ht.winEc, ht.winSp, ht.winEp⟩
  · rw [opDone_command_of_unconfigured (s := s.begin _) hc]
    exact ⟨by simp [sentByte, takeByte], rfl, rfl, rfl, rfl, rfl, rfl⟩

/-- Settles O13: the tracker sees the byte at the level the pin stands at. -/
theorem spiWriteSendsOneRawByte : Obligations.SpiWriteSendsOneRawByte := by
  intro b s hacc
  have htrace (l : DcLevel) (hl : effLevel s = l) : (opDone (.raw b) (s.begin (.spiWrite b))).trace =
      s.trace ++ [.byte l b] := hl ▸ opDone_raw_trace b (s.begin (.spiWrite b))
  have hdriven (l : DcLevel) (hc : s.dcCfg = true) (hd : s.dc = l) (hl : l ≠ .undef) :
      SameTracker (track l b s) (opDone (.raw b) (s.begin (.spiWrite b))) :=
    hd ▸ (sameTracker_begin _ s).opDone_raw hc (hd.trans_ne hl) b
  refine ⟨_, exec_spiWrite b hacc, rfl, opDone_raw_dc b _, fun hc hd => ?_, fun hc hd => ?_, fun hu => ?_,
    fun hc => ?_⟩
  · have ht := hdriven .low hc hd nofun
    have hlevel := (effLevel_of_configured hc).trans hd
    exact ⟨htrace .low hlevel, ht.proto, ht.viol, ht.winSc, ht.winEc, ht.winSp, ht.winEp⟩
  · have ht := hdriven .high hc hd nofun
    have hlevel := (effLevel_of_configured hc).trans hd
    exact ⟨htrace .high hlevel, ht.proto, ht.viol, ht.winSc, ht.winEc, ht.winSp, ht.winEp⟩
  · have hlevel := effLevel_eq_undef_iff.2 hu
    have hmark : (markLevel (s.begin (.spiWrite b))).viol.has .dcIndeterminate = true := by
      rw [has_markLevel, show effLevel (s.begin _) = .undef from hlevel]; rfl
    have hviol := opDone_raw_has b hmark
    refine ⟨htrace .undef hlevel, ?_⟩
    rw [opDone_raw_of_undef (s := s.begin _) hu] at hviol ⊢
    exact ⟨rfl, rfl, rfl, rfl, rfl, hviol⟩
  · refine opDone_raw_has b ?_
    rw [has_markLevel, show (s.begin _).dcCfg = false from hc]
    simp

/-! ### Raw sequences (R82, R96) -/

theorem sends_dataBytes (bs : List Byte) (s : State) : Sends (bs.map .data) (bs.map (dataEvent s)) s := by
  induction bs with
  | nil => exact .nil
  | cons b bs ih => exact (sends_data b s).cons ih

theorem byteCount_commandWithParams (c : Config) (op : Byte) (bs : List Byte) :
    byteCount ((commandWithParams op bs).flatMap (sequenceOf c)) = bs.length + 1 := by
  have hraw (bs : List Byte) : byteCount ((bs.map .spiWrite).flatMap (sequenceOf c)) = bs.length := by
    induction bs with
    | nil => rfl
    | cons b bs ih => rw [List.map_cons, List.flatMap_cons, byteCount_append, ih, List.length_cons, Nat.add_comm]; rfl
  cases bs with
  | nil => rfl
  | cons b bs =>
    rw [commandWithParams, writeParams, List.flatMap_cons, List.flatMap_cons, byteCount_append, byteCount_append, hraw]
    exact (congrArg (1 + ·) (Nat.zero_add _)).trans (Nat.add_comm _ _)

/-- A command with its parameters ends where its command and data bytes end (R82). -/
theorem execAll_commandWithParams (op : Byte) (bs : List Byte) {s : State} (h : Accepts (bs.length + 1) s) :
    execAll (commandWithParams op bs) s = .next (opsDone (.command op :: bs.map .data) s.idle).idle := by
  obtain ⟨is, his⟩ : ∃ is, commandWithParams op bs = .writeCommand op :: is := by cases bs <;> exact ⟨_, rfl⟩
  have halone := runsAlone_commandWithParams s.cfg op bs
  rw [← byteCount_commandWithParams s.cfg op bs] at h
  rw [← opsDone_commandWithParams s.cfg]
  rw [his] at halone h ⊢
  exact execAll_cons halone h

/-- After a command byte the level seen by a raw byte is Undef (R86, R87). -/
theorem effLevel_opDone_command (op : Byte) (s : State) : effLevel (opDone (.command op) s) = .undef := by
  rw [effLevel_eq_undef_iff, (opDone_panel rfl s).dcCfg]
  cases hc : s.dcCfg with
  | false => exact .inl rfl
  | true => exact .inr (opDone_command_dc hc op)

/-- Settles O14: the parameters are data bytes, and after a command byte the level is Undef. -/
theorem rawCommandSequencesFollowTheTransportLaws : Obligations.RawCommandSequencesFollowTheTransportLaws := by
  refine ⟨fun s op bs hc hacc => ?_, fun s op b hacc => ?_⟩
  · obtain ⟨-, htrace, -⟩ := (sends_command op s.idle).cons (sends_dataBytes bs s.idle) s.idle ⟨rfl, rfl, rfl, rfl⟩
    have hgeometry := (opsDone_sameRegisters (.command op :: bs.map .data) s.idle).geometry (by simp)
    have hlevel (l : DcLevel) : drivenLevel s.idle l = l := if_pos hc
    have hdata : dataEvent s.idle = .byte .high := funext fun b => by rw [dataEvent, hlevel]
    rw [cmdEvent, hlevel, hdata] at htrace
    exact ⟨_, execAll_commandWithParams op bs hacc, rfl, htrace, hgeometry⟩
  · have halone : ∀ i ∈ [.writeCommand op, .spiWrite b], RunsAlone s.cfg i := by
      simp [runsAlone_writeCommand, runsAlone_spiWrite]
    obtain ⟨-, htrace, -⟩ := sends_command op s.idle s.idle ⟨rfl, rfl, rfl, rfl⟩
    have hlevel := effLevel_opDone_command op s.idle
    have hmark : (markLevel (opDone (.command op) s.idle)).viol.has .dcIndeterminate = true := by
      rw [has_markLevel, hlevel]; rfl
    refine ⟨_, execAll_cons halone hacc, rfl, ?_, opDone_raw_has b hmark⟩
    calc (opDone (.raw b) (opDone (.command op) s.idle)).trace
      _ = (opDone (.command op) s.idle).trace ++ [.byte .undef b] := by rw [opDone_raw_trace, hlevel]
      _ = s.trace ++ [cmdEvent s op, .byte .undef b] := by
        rw [show (opDone (.command op) s.idle).trace = s.trace ++ [cmdEvent s op] from htrace]; simp

/-! ### Bytes at Undef (R94, R96 law 1) -/

theorem raw_mem_sequenceOf {c : Config} {i : Instr} {b : Byte} (h : .raw b ∈ sequenceOf c i) :
    ∃ b, i = .spiWrite b := by
  have hcolor (color : Half) (n : Nat) : .raw b ∉ colorOps color n := fun hm => by
    obtain hm | ⟨_, hm⟩ := mem_colorOps hm <;> cases hm
  have hwindow (x y w k : Half) : .raw b ∉ windowOps c x y w k := by simp [windowOps, rangeOps]
  cases i with
  | spiWrite b => exact ⟨b, rfl⟩
  | initialise =>
    obtain h | h := List.mem_append.1 h
    · obtain ⟨e, -, he⟩ := List.mem_flatMap.1 h
      cases e <;> simp [entryOps] at he
    · simp at h
  | pushPixels x y w k buf => simp [sequenceOf, pushPixelsSeq, elementOps, hwindow] at h
  | setAddrWindow x y w k => simp [sequenceOf, setAddrWindowSeq, hwindow] at h
  | writeFillRect x y w k color => simp [sequenceOf, writeFillRectSeq, hwindow, hcolor] at h
  | writePixel color => simp [sequenceOf, writePixelSeq, hcolor] at h
  | writeColor color count => simp [sequenceOf, writeColorSeq, hcolor] at h
  | setRotation mode => simp [sequenceOf, setRotationSeq] at h
  | setCursor x y => simp [sequenceOf, setCursorSeq] at h
  | writeText f a => simp [sequenceOf] at h
  | dcInit => simp [sequenceOf, dcInitSeq] at h
  | dcLow => simp [sequenceOf, dcLowSeq] at h
  | dcHigh => simp [sequenceOf, dcHighSeq] at h
  | writeCommand op => simp [sequenceOf, writeCommandSeq] at h

/-- What happened between two states put no byte at Undef in the trace. -/
def NoUndef (s t : State) : Prop := ∃ evs, t.trace = s.trace ++ evs ∧ ∀ b, Event.byte .undef b ∉ evs

theorem NoUndef.of_eq {s t : State} (h : t.trace = s.trace) : NoUndef s t := ⟨[], by simp [h], by simp⟩

theorem NoUndef.trans {s t u : State} (h : NoUndef s t) (g : NoUndef t u) : NoUndef s u := by
  obtain ⟨evs, ht, hevs⟩ := h
  obtain ⟨evs', hu, hevs'⟩ := g
  exact ⟨evs ++ evs', by rw [hu, ht, List.append_assoc], fun b => by simp [hevs b, hevs' b]⟩

theorem opDone_byte_trace {o : Op} (h : o.isByte = true) (s : State) :
    (opDone o s).trace = s.trace ++ [.byte (byteLevel o s) (opByte o s)] := by
  have hafter (t : State) : (afterByte o t).trace = t.trace := by cases o <;> simp [afterByte]
  rw [opDone_of_isByte h, hafter]
  simp [sentByte, takeByte, opWait_trace]

/-- Every byte but a raw one is sent at a driven level once the pin is configured (R86 to R88). -/
theorem byteLevel_ne_undef {o : Op} (h : o.isByte = true) (ho : ∀ b, o ≠ .raw b) {s : State} (hc : s.dcCfg = true) :
    byteLevel o s ≠ .undef := by
  cases o with
  | raw b => exact absurd rfl (ho b)
  | command b | data b | elemFirst a | elemSecond a => simp [byteLevel, effLevel_driveDc, hc]
  | _ => cases h

theorem opDone_noUndef {o : Op} (ho : ∀ b, o ≠ .raw b) {s : State} (hc : s.dcCfg = true) : NoUndef s (opDone o s) := by
  cases hb : o.isByte with
  | true =>
    refine ⟨_, opDone_byte_trace hb s, fun b hmem => ?_⟩
    obtain ⟨hlevel, -⟩ := Event.byte.inj (List.mem_singleton.1 hmem)
    exact byteLevel_ne_undef hb ho hc hlevel.symm
  | false =>
    cases o with
    | wait k => exact ⟨[.wait k], by simp [opDone, waitEvent], by simp⟩
    | command b | data b | raw b | elemFirst a | elemSecond a => cases hb
    | _ => exact .of_eq (by simp [opDone])

theorem opsDone_noUndef {ops : List Op} (ho : ∀ b, .raw b ∉ ops) {s : State} (hc : s.dcCfg = true) :
    NoUndef s (opsDone ops s) := by
  induction ops generalizing s with
  | nil => exact .of_eq rfl
  | cons o rest ih =>
    simp only [List.mem_cons, not_or, forall_and] at ho
    obtain ⟨hfirst, hrest⟩ := ho
    have hstep : NoUndef s (opDone o s) := opDone_noUndef (fun b h => hfirst b h.symm) hc
    exact hstep.trans (ih hrest ((opDone_sticky o s).dcCfg hc))

/-- Settles O15: the run of a request without raw bytes, whole or up to the byte it waits for. -/
theorem onlySpiWriteEmitsAtUndefOnceConfigured : Obligations.OnlySpiWriteEmitsAtUndefOnceConfigured := by
  intro i s t hc h hi
  have hops : ∀ b, .raw b ∉ sequenceOf s.cfg i := fun b hm =>
    let ⟨b, he⟩ := raw_mem_sequenceOf hm
    hi b he
  suffices NoUndef s t from this
  obtain ⟨f, a, -, rfl⟩ | ⟨x, y, w, k, buf, -, -, rfl⟩ | h := exec_cases h
  · exact .of_eq rfl
  · exact .of_eq rfl
  · obtain rfl | ⟨pre, o, post, hseq, -, rfl⟩ := runRequest_cases h
    · exact opsDone_noUndef hops (s := s.begin i) hc
    · have hpre : ∀ b, .raw b ∉ pre := fun b hm => hops b (hseq ▸ List.mem_append_left _ hm)
      have hrun : NoUndef s (opsDone pre (s.begin i)) := opsDone_noUndef hpre (s := s.begin i) hc
      exact hrun.trans (.of_eq (opWait_trace o _))

end Sys2Proof.Machine
end

section
/-! A stall and what follows it (R17, R84, R165): no operation reads the transport but to wait for it, so a request that
stalls and is granted more goes on as if the transport had taken those bytes at once. The checks that stand before the
byte are made twice, which is making them once. -/

namespace Sys2Proof.Machine

/-! ### The transport is read by no operation but to wait for it -/

/-- The state with another transport. -/
def State.withAccepts (a : Option Nat) (s : State) : State := { s with accepts := a }

theorem State.withAccepts_self (s : State) : s.withAccepts s.accepts = s := rfl

section
variable (a : Option Nat) (s : State)

theorem State.markIf_withAccepts (p : Bool) (v : Violation) :
    (s.withAccepts a).markIf p v = (s.markIf p v).withAccepts a := by
  cases p <;> rfl

theorem driveDc_withAccepts (l : DcLevel) : driveDc l (s.withAccepts a) = (driveDc l s).withAccepts a := by
  unfold driveDc
  rw [apply_ite (State.withAccepts a)]; rfl

theorem releaseDc_withAccepts : releaseDc (s.withAccepts a) = (releaseDc s).withAccepts a := by
  unfold releaseDc
  rw [apply_ite (State.withAccepts a)]; rfl

theorem markLevel_withAccepts : markLevel (s.withAccepts a) = (markLevel s).withAccepts a := by
  unfold markLevel
  rw [State.markIf_withAccepts, State.markIf_withAccepts]; rfl

theorem sentByte_withAccepts (l : DcLevel) (b : Byte) :
    sentByte l b (s.withAccepts a) = (sentByte l b s).withAccepts (a.map (· - 1)) := by
  have hother : SameTracker s (s.withAccepts a) := ⟨rfl, rfl, rfl, rfl, rfl, rfl, rfl, rfl, rfl⟩
  rw [hother.sentByte_eq, (SameTracker.refl s).sentByte_eq]; rfl

theorem elemReady_withAccepts (o : Op) : elemReady o (s.withAccepts a) = elemReady o s := by
  cases o <;> rfl

theorem byteLevel_withAccepts (o : Op) : byteLevel o (s.withAccepts a) = byteLevel o s := by
  have hlevel (t : State) : effLevel (t.withAccepts a) = effLevel t := rfl
  cases o <;> simp only [byteLevel, driveDc_withAccepts, hlevel]

theorem opByte_withAccepts (o : Op) : opByte o (s.withAccepts a) = opByte o s := by
  cases o <;> rfl

theorem opWait_withAccepts (o : Op) : opWait o (s.withAccepts a) = (opWait o s).withAccepts a := by
  have hdrive (l : DcLevel) (t : State) :
      markLevel (driveDc l (t.withAccepts a)) = (markLevel (driveDc l t)).withAccepts a := by
    rw [driveDc_withAccepts, markLevel_withAccepts]
  have helem (w : Word) : elementAt w (s.withAccepts a) = elementAt w s := rfl
  cases o with
  | command b | data b => exact hdrive _ s
  | raw b => exact markLevel_withAccepts a s
  | elemFirst w | elemSecond w =>
    simp only [opWait, helem]
    split
    · rename_i v _
      exact hdrive _ { s with elem := some v }
    · rfl
  | _ => rfl

theorem opDone_withAccepts (o : Op) :
    opDone o (s.withAccepts a) = (opDone o s).withAccepts (if o.isByte then a.map (· - 1) else a) := by
  cases hb : o.isByte with
  | true =>
    have hafter (t : State) (x : Option Nat) : afterByte o (t.withAccepts x) = (afterByte o t).withAccepts x := by
      cases o with
      | command b => exact releaseDc_withAccepts x t
      | _ => rfl
    rw [opDone_of_isByte hb, opDone_of_isByte hb, byteLevel_withAccepts, opByte_withAccepts, opWait_withAccepts,
      sentByte_withAccepts, hafter, if_pos rfl]
  | false =>
    cases o with
    | driveDc l => exact driveDc_withAccepts a s l
    | drawingCheck | streamCheck n => exact State.markIf_withAccepts a s _ _
    | command b | data b | raw b | elemFirst w | elemSecond w => cases hb
    | _ => rfl

end

/-- An operation that was done is done on a transport that takes more. -/
theorem runOp_grant {o : Op} {s u : State} {n : Nat} (h : runOp o s = .done u) (hn : s.accepts = some n) :
    ∃ m, u.accepts = some m ∧
      ∀ a : Option Nat, runOp o (s.withAccepts (a.map (n + ·))) = .done (u.withAccepts (a.map (m + ·))) := by
  obtain rfl := runOp_done h
  rw [runOp_eq] at h
  have hready : elemReady o s ≠ false := fun he => by rw [if_pos he] at h; cases h
  rw [if_neg hready] at h
  cases hb : o.isByte with
  | false =>
    refine ⟨n, by rw [opDone_accepts, hb]; exact hn, fun a => ?_⟩
    rw [runOp_eq, elemReady_withAccepts, if_neg hready, if_neg (by simp [hb]), opDone_withAccepts, hb]
    rfl
  | true =>
    obtain _ | m := n
    · rw [if_pos ⟨hb, hn⟩] at h; cases h
    refine ⟨m, by rw [opDone_accepts, hb, hn]; rfl, fun a => ?_⟩
    have htakes : ¬ (a.map (m + 1 + ·)) = some 0 := by simp
    have hrest : (a.map (m + 1 + ·)).map (· - 1) = a.map (m + ·) := by
      rw [Option.map_map]
      exact congrArg (Option.map · a) (funext fun k => by simp only [Function.comp]; omega)
    rw [runOp_eq, elemReady_withAccepts, if_neg hready, if_neg fun hs => htakes hs.2, opDone_withAccepts, hb,
      if_pos rfl, hrest]

/-- A sequence that was done is done on a transport that takes more. -/
theorem runOps_grant {ops : List Op} {s u : State} {n : Nat} (h : runOps ops s = .done u) (hn : s.accepts = some n) :
    ∃ m, u.accepts = some m ∧
      ∀ a : Option Nat, runOps ops (s.withAccepts (a.map (n + ·))) = .done (u.withAccepts (a.map (m + ·))) := by
  induction ops generalizing s n with
  | nil => cases h; exact ⟨n, hn, fun _ => rfl⟩
  | cons o rest ih =>
    rw [runOps] at h
    split at h
    · rename_i t ht
      obtain ⟨k, hk, hstep⟩ := runOp_grant ht hn
      obtain ⟨m, hm, hrest⟩ := ih h hk
      exact ⟨m, hm, fun a => by rw [runOps, hstep]; exact hrest a⟩
    · cases h

/-! ### Waiting twice is waiting once (R33, R85, R86) -/

/-- Marking what is marked already changes nothing (R33). -/
theorem State.markIf_eq_self {s : State} {p : Bool} {v : Violation} (h : p = true → s.viol.has v = true) :
    s.markIf p v = s := by
  unfold State.markIf
  split
  · rename_i hp
    rw [State.mark, Marks.add_of_has (h hp)]
  · rfl

theorem markLevel_markLevel (s : State) : markLevel (markLevel s) = markLevel s := by
  have hlevel : effLevel (markLevel s) = effLevel s := by simp [effLevel]
  rw [markLevel, State.markIf_eq_self (s := markLevel s), State.markIf_eq_self] <;> rw [has_markLevel]
  · rw [hlevel]; simp +contextual
  · rw [markLevel_dcCfg]; simp +contextual

theorem driveDc_markLevel_driveDc (l : DcLevel) (s : State) :
    driveDc l (markLevel (driveDc l s)) = markLevel (driveDc l s) := by
  rw [driveDc_eq_self_iff, markLevel_dcCfg, driveDc_dcCfg, markLevel_dc, driveDc_dc]
  split
  · rfl
  · rename_i hc
    exact (markLevel_sticky _).viol _ (by simp [driveDc_viol, hc])

section
variable {w : Word} {s : State}

theorem opWait_elemFirst {v : Half} (h : elementAt w s = some v) :
    opWait (.elemFirst w) s = markLevel (driveDc .high { s with elem := some v }) := by
  simp only [opWait, h]

theorem opWait_elemFirst_of_none (h : elementAt w s = none) : opWait (.elemFirst w) s = s := by
  simp only [opWait, h]

/-- The element an operation waits to send is at hand (R61). -/
theorem elementAt_opWait : elementAt w (opWait (.elemFirst w) s) = elementAt w s := by
  cases h : elementAt w s with
  | none => rw [opWait_elemFirst_of_none h, h]
  | some v => rw [opWait_elemFirst h, elementAt, markLevel_elem, driveDc_elem]

theorem opWait_opWait_elemFirst : opWait (.elemFirst w) (opWait (.elemFirst w) s) = opWait (.elemFirst w) s := by
  cases h : elementAt w s with
  | none => rw [opWait_elemFirst_of_none h, opWait_elemFirst_of_none h]
  | some v =>
    have hkept (t : State) (ht : t.elem = some v) : { t with elem := some v } = t := by rw [← ht]
    rw [opWait_elemFirst (elementAt_opWait.trans h), opWait_elemFirst h, hkept _ (by simp), driveDc_markLevel_driveDc,
      markLevel_markLevel]

end

/-- An operation that waits, waits in the same state when it is run again. -/
theorem opWait_opWait (o : Op) (s : State) : opWait o (opWait o s) = opWait o s := by
  cases o with
  | command b | data b => exact (congrArg markLevel (driveDc_markLevel_driveDc _ s)).trans (markLevel_markLevel _)
  | raw b => exact markLevel_markLevel s
  | elemFirst w | elemSecond w => exact opWait_opWait_elemFirst (w := w)
  | _ => rfl

theorem byteLevel_opWait (o : Op) (s : State) : byteLevel o (opWait o s) = byteLevel o s := by
  have hdc := (opWait_panel o s).dcCfg
  cases o with
  | raw b => simp [byteLevel, opWait, effLevel]
  | _ => simp only [byteLevel, effLevel_driveDc, hdc]

theorem opByte_opWait (o : Op) (s : State) : opByte o (opWait o s) = opByte o s := by
  have hcfg := (opWait_base o s).cfg
  cases o with
  | elemFirst w => simp only [opByte, hcfg, elementAt_opWait]
  | elemSecond w =>
    have helem : elementAt w (opWait (.elemSecond w) s) = elementAt w s := elementAt_opWait
    simp only [opByte, hcfg, helem]
  | _ => rfl

theorem elemReady_opWait (o : Op) (s : State) : elemReady o (opWait o s) = elemReady o s := by
  cases o with
  | elemFirst w | elemSecond w => exact congrArg Option.isSome (elementAt_opWait (w := w) (s := s))
  | _ => rfl

/-- A byte that was waited for is sent as it would have been without the wait. -/
theorem opDone_opWait {o : Op} (h : o.isByte = true) (s : State) : opDone o (opWait o s) = opDone o s := by
  rw [opDone_of_isByte h, opDone_of_isByte h, byteLevel_opWait, opByte_opWait, opWait_opWait]

/-! ### Checks made twice are made once (R33, R123, R125) -/

/-- The operations that only mark. -/
def Op.isCheck : Op → Bool
  | .drawingCheck => true
  | .streamCheck _ => true
  | _ => false

/-- The condition under which a check marks. -/
def checkFails (c : Op) (s : State) : Bool :=
  match c with
  | .drawingCheck => !s.initDone
  | .streamCheck n => decide (0 < n) && !s.proto.isStream
  | _ => false

/-- What a check marks. -/
def checkMark (c : Op) : Violation :=
  match c with
  | .streamCheck _ => .streamNotOpen
  | _ => .beforeInit

theorem opDone_check {c : Op} (h : c.isCheck = true) (s : State) :
    opDone c s = s.markIf (checkFails c s) (checkMark c) := by
  cases c with
  | drawingCheck | streamCheck n => rfl
  | _ => cases h

/-- What the check finds is marked already. -/
def CheckMade (c : Op) (s : State) : Prop := checkFails c s = true → s.viol.has (checkMark c) = true

theorem checkFails_congr {s t : State} (hinit : t.initDone = s.initDone) (hproto : t.proto = s.proto) (c : Op) :
    checkFails c t = checkFails c s := by
  cases c <;> simp only [checkFails, hinit, hproto]

theorem CheckMade.mono {c : Op} {s t : State} (h : CheckMade c s) (hsticky : Sticky s t)
    (hinit : t.initDone = s.initDone) (hproto : t.proto = s.proto) : CheckMade c t := fun hf =>
  hsticky.viol _ (h (checkFails_congr hinit hproto c ▸ hf))

/-- A check leaves what the checks look at. -/
theorem opDone_check_keeps {c : Op} (h : c.isCheck = true) (s : State) :
    (opDone c s).initDone = s.initDone ∧ (opDone c s).proto = s.proto := by
  rw [opDone_check h]; simp

theorem checkMade_opDone {c : Op} (h : c.isCheck = true) (s : State) : CheckMade c (opDone c s) := by
  obtain ⟨hinit, hproto⟩ := opDone_check_keeps h s
  intro hf
  rw [checkFails_congr hinit hproto] at hf
  rw [opDone_check h, State.has_markIf, hf]
  simp

theorem opsDone_checks {ops : List Op} (h : ∀ c ∈ ops, c.isCheck = true) (s : State) :
    (opsDone ops s).initDone = s.initDone ∧ (opsDone ops s).proto = s.proto ∧
      ∀ c ∈ ops, CheckMade c (opsDone ops s) := by
  induction ops generalizing s with
  | nil => exact ⟨rfl, rfl, nofun⟩
  | cons c rest ih =>
    rw [List.forall_mem_cons] at h ⊢
    obtain ⟨hc, hrest⟩ := h
    obtain ⟨hinit, hproto⟩ := opDone_check_keeps hc s
    obtain ⟨hinit', hproto', hmade⟩ := ih hrest (opDone c s)
    have hfirst := (checkMade_opDone hc s).mono (opsDone_sticky rest _) hinit' hproto'
    exact ⟨hinit'.trans hinit, hproto'.trans hproto, hfirst, hmade⟩

/-- Checks that are made already leave the state as it is. -/
theorem runOps_of_checkMade {ops : List Op} {s : State} (h : ∀ c ∈ ops, c.isCheck = true)
    (hmade : ∀ c ∈ ops, CheckMade c s) : runOps ops s = .done s := by
  induction ops with
  | nil => rfl
  | cons c rest ih =>
    rw [List.forall_mem_cons] at h hmade
    obtain ⟨hc, hrest⟩ := h
    have hdone : opDone c s = s := (opDone_check hc s).trans (State.markIf_eq_self hmade.1)
    have hrun : runOp c s = .done s := by
      cases c with
      | drawingCheck | streamCheck n => exact congrArg Progress.done hdone
      | _ => cases hc
    rw [runOps, hrun]
    exact ih hrest hmade.2

theorem driveDc_mem_sequenceOf {c : Config} {i : Instr} {l : DcLevel} (h : .driveDc l ∈ sequenceOf c i) :
    i = .dcLow ∨ i = .dcHigh := by
  have hw := (mem_sequenceOf h).resolve_left nofun
  cases i <;> simp [stateWrites] at hw ⊢

/-- The operations before a byte of a sequence are events and checks. -/
theorem isCheck_of_mem_before_byte {c : Config} {i : Instr} {pre post : List Op} {o p : Op}
    (h : sequenceOf c i = pre ++ o :: post) (ho : o.isByte = true) (hp : p ∈ pre) (hevent : p.isEvent = false) :
    p.isCheck = true := by
  have hreg := writesRegisters_of_mem_before_byte h ho hp
  have hmem : p ∈ sequenceOf c i := h ▸ List.mem_append_left _ hp
  have honly : ∀ q, sequenceOf c i = [q] → q.isByte = true := fun q hq => by
    have hbyte : o ∈ sequenceOf c i := h ▸ List.mem_append_right _ List.mem_cons_self
    rw [hq] at hbyte
    exact List.mem_singleton.1 hbyte ▸ ho
  cases p with
  | drawingCheck | streamCheck n => rfl
  | setInitDone | setGeometry m => cases hreg
  | configureDc =>
    obtain rfl := configureDc_mem_sequenceOf hmem
    cases honly _ rfl
  | setCursor x y =>
    obtain ⟨x, y, rfl⟩ := setCursor_mem_sequenceOf hmem
    cases honly _ rfl
  | driveDc l => obtain rfl | rfl := driveDc_mem_sequenceOf hmem <;> cases honly _ rfl
  | _ => cases hevent

/-! ### The stall and what follows it -/

theorem opWait_accepts (o : Op) (s : State) : (opWait o s).accepts = s.accepts := by
  have h := opWait_withAccepts s.accepts s o
  rw [State.withAccepts_self] at h
  rw [h]; rfl

/-- An operation that has waited does what it does without the wait. -/
theorem runOp_opWait {o : Op} (h : o.isByte = true) (s : State) : runOp o (opWait o s) = runOp o s := by
  cases hready : elemReady o s with
  | false =>
    have hstuck : runOp o s = .stuck .memoryNotAdmitted s := by rw [runOp_eq, if_pos hready]
    obtain ⟨-, hwait, -⟩ := runOp_stuck hstuck
    rw [← hwait]
  | true =>
    have hnot : ¬ elemReady o s = false := by simp [hready]
    rw [runOp_eq, runOp_eq, elemReady_opWait, opWait_accepts, opWait_opWait, opDone_opWait h, if_neg hnot, if_neg hnot]

theorem runOps_append_of_done {pre : List Op} {s u : State} (h : runOps pre s = .done u) (post : List Op) :
    runOps (pre ++ post) s = runOps post u := by
  rw [runOps_append, h]

/-- A request waits for the byte `o`: what is left of its sequence is checks that are made already, and then that byte,
which is sent as it would have been without the wait (R32, R165). -/
theorem runOps_remaining_of_wait {c : Config} {i : Instr} {s : State} {pre post : List Op} {o : Op}
    (h : sequenceOf c i = pre ++ o :: post) (ho : o.isByte = true) (a : Option Nat) :
    runOps (afterEvents (opWait o (opsDone pre (s.begin i))).stepIdx (sequenceOf c i))
        ((opWait o (opsDone pre (s.begin i))).withAccepts a) =
      runOps (o :: post) ((opsDone pre (s.begin i)).withAccepts a) := by
  have hpos : (opWait o (opsDone pre (s.begin i))).stepIdx = eventCount pre := by
    rw [opWait_stepIdx, opsDone_stepIdx]
    exact Nat.zero_add _
  rw [hpos, h, afterEvents_append le_rfl]
  have hcount := eventCount_afterEvents (Nat.le_refl (eventCount pre))
  obtain ⟨before, hbefore⟩ := afterEvents_suffix (eventCount pre) pre
  generalize afterEvents (eventCount pre) pre = checks at *
  subst hbefore
  have hchecks : ∀ p ∈ checks, p.isCheck = true := fun p hp =>
    isCheck_of_mem_before_byte h ho (List.mem_append_right _ hp) (eventCount_eq_zero_iff.1 (by omega) p hp)
  obtain ⟨-, -, hmade⟩ := opsDone_checks hchecks (opsDone before (s.begin i))
  rw [← opsDone_append] at hmade
  have hwait : ∀ p ∈ checks, CheckMade p (opWait o (opsDone (before ++ checks) (s.begin i))) := fun p hp =>
    (hmade p hp).mono (opWait_sticky o _) (opWait_panel o _).initDone (opWait_proto o _)
  rw [runOps_append_of_done (runOps_of_checkMade (s := State.withAccepts a _) hchecks hwait), runOps, runOps,
    ← opWait_withAccepts, runOp_opWait ho]

theorem stepIdx_le_of_runOps_stuck {ops : List Op} {s t : State} {why : Fault} (h : runOps ops s = .stuck why t) :
    s.stepIdx ≤ t.stepIdx := by
  obtain ⟨pre, o, post, -, -, ho⟩ := runOps_stuck h
  obtain ⟨-, rfl, -⟩ := runOp_stuck ho
  rw [opWait_stepIdx, opsDone_stepIdx]
  exact Nat.le_add_right _ _

/-- A byte the transport takes moves the position, wherever the sequence is stuck next. -/
theorem stepIdx_lt_of_runOps_stuck {o : Op} {post : List Op} {s t : State} {why : Fault} (ho : o.isByte = true)
    (hready : elemReady o s = true) (hacc : s.accepts ≠ some 0) (h : runOps (o :: post) s = .stuck why t) :
    s.stepIdx < t.stepIdx := by
  have hdone : runOp o s = .done (opDone o s) := by
    rw [runOp_eq, if_neg (by simp [hready]), if_neg fun hs => hacc hs.2]
  rw [runOps, hdone] at h
  have hle := stepIdx_le_of_runOps_stuck h
  rw [opDone_stepIdx, if_pos (Op.isEvent_of_isByte ho)] at hle
  omega

/-- Going on with a request is running it, where what is left of it goes as its sequence does and moves. -/
theorem resumeOps_eq_runRequest {i : Instr} {ops ops' : List Op} {s s' : State}
    (h : runOps (afterEvents s.stepIdx ops) s = runOps ops' (s'.begin i))
    (hmoves : ∀ why t, runOps ops' (s'.begin i) = .stuck why t → s.stepIdx < t.stepIdx) :
    resumeOps ops s = runRequest i ops' s' := by
  rw [resumeOps, runRequest, h]
  cases hrun : runOps ops' (s'.begin i) with
  | done t => rfl
  | stuck why t => exact if_neg fun hsame => (hmoves why t hrun).ne' hsame.1

/-- A request runs its sequence, in every state, or ends at once, in every state. -/
theorem exec_eq_runRequest_or_ends (i : Instr) :
    (∀ s, exec i s = runRequest i (sequenceOf s.cfg i) s) ∨ ∀ s, ∃ t, exec i s = .next t ∧ t.req = none := by
  cases i with
  | writeText f a => exact .inr fun s => ⟨_, rfl, rfl⟩
  | pushPixels x y w k buf =>
    cases hb : misaligned buf with
    | true => exact .inr fun s => ⟨_, by rw [exec, execPushPixels, if_pos hb], rfl⟩
    | false => exact .inl fun s => by rw [exec, execPushPixels, if_neg (by simp [hb])]; rfl
  | _ => exact .inl fun _ => rfl

/-- exec always answers a next state. -/
theorem exec_next (i : Instr) (s : State) : ∃ t, exec i s = .next t := by
  obtain hruns | hends := exec_eq_runRequest_or_ends i
  · rw [hruns]; exact runRequest_next i _ s
  · obtain ⟨t, ht, -⟩ := hends s
    exact ⟨t, ht⟩

theorem acceptRequest_next (s : State) : ∃ t, acceptRequest s = .next t := by
  unfold acceptRequest
  split
  · exact ⟨_, rfl⟩
  · exact ⟨_, rfl⟩
  · exact exec_next _ _

/-- A step answers that the transport stalled only where a request in flight is stuck. -/
theorem resume_of_step_stalled {t : State} (hin : t.input = none) (h : step t = .fault .transportStalled) :
    ∃ i, t.fault = none ∧ t.refused = none ∧ t.req = some i ∧ resume i t = .fault .transportStalled := by
  have h : proceed t = .fault .transportStalled := by rwa [step, stepWith, hin] at h
  unfold proceed at h
  split at h
  · cases h
  · cases h
  · rename_i i hf hr hreq
    exact ⟨i, hf, hr, hreq, h⟩
  · obtain ⟨u, hu⟩ := acceptRequest_next t
    rw [hu] at h
    cases h

/-- A request that is in flight after its run is stuck (R165). -/
theorem runOps_stuck_of_runRequest {i j : Instr} {ops : List Op} {s t : State} (h : runRequest i ops s = .next t)
    (hreq : t.req = some j) : j = i ∧ ∃ why, runOps ops (s.begin i) = .stuck why t := by
  unfold runRequest at h
  split at h
  · cases h; cases hreq
  · rename_i why u hu
    cases h
    obtain ⟨pre, o, -, -, -, ho⟩ := runOps_stuck hu
    obtain ⟨-, rfl, -⟩ := runOp_stuck ho
    have hkept := ((opsDone_base pre (s.begin i)).trans (opWait_base o _)).req
    exact ⟨Option.some.inj (hreq.symm.trans hkept), why, hu⟩

/-- The reason a request is stuck for is the reason its next step gives (R165). -/
theorem resume_of_runOps_stuck {i : Instr} {s t : State} {why : Fault}
    (h : runOps (sequenceOf s.cfg i) (s.begin i) = .stuck why t) : resume i t = .fault why := by
  obtain ⟨pre, o, post, hops, -, ho⟩ := runOps_stuck h
  obtain ⟨hbyte, rfl, -⟩ := runOp_stuck ho
  have hcfg : (opWait o (opsDone pre (s.begin i))).cfg = s.cfg := ((opsDone_base pre _).trans (opWait_base o _)).cfg
  have hrest := runOps_remaining_of_wait hops hbyte (s := s) (opsDone pre (s.begin i)).accepts
  rw [← opWait_withAccepts, State.withAccepts_self, runOps, ho] at hrest
  rw [resume, hcfg, resumeOps, hrest]
  exact if_pos ⟨rfl, rfl⟩

/-- A request stalled after `n` bytes goes on, once more are granted, as on a transport that takes those `n` and more. -/
theorem resume_grant {i : Instr} {s t : State} {n : Nat} {a : Option Nat} (hn : s.accepts = some n)
    (h : runOps (sequenceOf s.cfg i) (s.begin i) = .stuck .transportStalled t) (ha : a ≠ some 0) :
    resume i (t.withAccepts a) = runRequest i (sequenceOf s.cfg i) (s.withAccepts (a.map (n + ·))) := by
  obtain ⟨pre, o, post, hops, hpre, ho⟩ := runOps_stuck h
  obtain ⟨hbyte, rfl, ⟨hwhy, -⟩ | ⟨-, hready, hempty⟩⟩ := runOp_stuck ho
  · cases hwhy
  have hcfg : (opWait o (opsDone pre (s.begin i))).cfg = s.cfg := ((opsDone_base pre _).trans (opWait_base o _)).cfg
  have hresumed := runOps_remaining_of_wait (s := s) hops hbyte a
  have hgranted : runOps (sequenceOf s.cfg i) ((s.withAccepts (a.map (n + ·))).begin i) =
      runOps (o :: post) ((opsDone pre (s.begin i)).withAccepts a) := by
    obtain ⟨m, hm, hrun⟩ := runOps_grant hpre hn
    obtain rfl : m = 0 := Option.some.inj (hm.symm.trans hempty)
    have hrun := hrun a
    rw [show a.map (0 + ·) = a by simp] at hrun
    rw [hops]
    exact runOps_append_of_done hrun (o :: post)
  rw [resume, show (State.withAccepts a _).cfg = s.cfg from hcfg]
  refine resumeOps_eq_runRequest (hresumed.trans hgranted.symm) fun why v hv => ?_
  have hmoves := stepIdx_lt_of_runOps_stuck hbyte ((elemReady_withAccepts a _ o).trans hready) ha (hgranted ▸ hv)
  exact (opWait_stepIdx o _).trans_lt hmoves

/-- Settles O58: only a request that runs can be stalled, and it goes on as it would have without the pause. -/
theorem stallAndResumeEqualsNoStall : Obligations.StallAndResumeEqualsNoStall := by
  intro i s t n a hready hn h hstall ha
  obtain ⟨-, -, -, hinput⟩ := hready
  obtain ⟨-, -, hin, -, -⟩ := exec_base h
  have hin : t.input = none := hin.trans hinput
  obtain ⟨j, hf, hr, hreq, hresume⟩ := resume_of_step_stalled hin hstall
  obtain hruns | hends := exec_eq_runRequest_or_ends i
  · rw [hruns] at h
    obtain ⟨rfl, why, hstuck⟩ := runOps_stuck_of_runRequest h hreq
    obtain rfl : why = .transportStalled := by
      rw [resume_of_runOps_stuck hstuck] at hresume
      exact Host.Outcome.fault.inj hresume
    calc step (t.withAccepts a)
      _ = proceed (t.withAccepts a) := by rw [step, stepWith, show (t.withAccepts a).input = none from hin]
      _ = resume j (t.withAccepts a) := proceed_of_req hf hr hreq
      _ = runRequest j (sequenceOf s.cfg j) (s.withAccepts (a.map (n + ·))) := resume_grant hn hstuck ha
      _ = exec j (s.withAccepts (a.map (n + ·))) := (hruns (s.withAccepts (a.map (n + ·)))).symm
  · obtain ⟨u, hu, hnone⟩ := hends s
    cases h.symm.trans hu
    cases hreq.symm.trans hnone

end Sys2Proof.Machine
end

section
/-! The initialization request (R98 to R104): what a conforming table looks like, what it sends, what the view of the
panel and the tracker make of it entry by entry, and from these what the request does. -/

namespace Sys2Proof.Machine

/-! ### A conforming table (R98) -/

/-- An opcode that opens no window command, no stream and no software reset: for the tracker it only holds parameters. -/
structure PlainOp (c : Config) (op : Byte) : Prop where
  swreset : op ≠ c.opSwreset
  caset : op ≠ c.opCaset
  paset : op ≠ c.opPaset
  ramwr : op ≠ c.opRamwr

/-- The opcodes R98 item 5 admits between the reset wait and sleep-out. -/
structure MiddleOp (c : Config) (op : Byte) : Prop extends PlainOp c op where
  slpout : op ≠ c.opSlpout
  dispon : op ≠ c.opDispon

/-- The table is the software reset, its wait, middle commands with a memory-access-control command among them, sleep-out,
its wait and display-on (R98). -/
structure TableShape (c : Config) (pRst : List Byte) (mid : List InitEntry) (pOut pOn : List Byte) : Prop where
  table : c.initTable = .cmd c.opSwreset pRst :: .wait .resetWait ::
    (mid ++ [.cmd c.opSlpout pOut, .wait .sleepOutWait, .cmd c.opDispon pOn])
  middle : ∀ e ∈ mid, ∃ op ps, e = .cmd op ps ∧ MiddleOp c op
  madctl : ∃ m, .cmd c.opMadctl [m] ∈ mid

section
variable {c : Config}

theorem table_of_startsWithReset (h : c.startsWithReset = true) :
    ∃ pRst, c.initTable = [.cmd c.opSwreset pRst, .wait .resetWait] ++ c.initTable.drop 2 := by
  unfold Config.startsWithReset at h
  split at h
  · rename_i op ps htake
    obtain rfl := beq_iff_eq.1 h
    exact ⟨ps, by rw [← htake, List.take_append_drop]⟩
  · cases h

/-- Taking the last three entries off leaves the middle. -/
theorem table_of_endsWithDisplayOn (h : c.endsWithDisplayOn = true) :
    ∃ pOut pOn, c.initTable.drop 2 =
      c.initMiddle ++ [.cmd c.opSlpout pOut, .wait .sleepOutWait, .cmd c.opDispon pOn] := by
  unfold Config.endsWithDisplayOn at h
  split at h
  · rename_i on pOn out pOut htake
    rw [Bool.and_eq_true, beq_iff_eq, beq_iff_eq] at h
    obtain ⟨rfl, rfl⟩ := h
    have hrev := List.take_append_drop 3 (c.initTable.drop 2).reverse
    rw [htake] at hrev
    have hdrop := congrArg List.reverse hrev
    simp only [List.reverse_cons, List.reverse_reverse, List.nil_append, List.append_assoc, List.cons_append] at hdrop
    refine ⟨pOut, pOn, ?_⟩
    rw [Config.initMiddle, ← hdrop]
    simp
  · cases h

theorem middleOp_of_mem (hcmd : c.middleIsCommands = true) (havoid : c.middleAvoids = true) {e : InitEntry}
    (he : e ∈ c.initMiddle) : ∃ op ps, e = .cmd op ps ∧ MiddleOp c op := by
  have hcmd := List.all_eq_true.1 hcmd e he
  have havoid := List.all_eq_true.1 havoid e he
  cases e with
  | wait k => cases hcmd
  | cmd op ps =>
    have hop : op ∉ [c.opSwreset, c.opSlpout, c.opDispon, c.opCaset, c.opPaset, c.opRamwr] := by simpa using havoid
    simp only [List.mem_cons, List.not_mem_nil, or_false, not_or] at hop
    obtain ⟨hrst, hout, hon, hcas, hpas, hram⟩ := hop
    exact ⟨op, ps, rfl, ⟨hrst, hcas, hpas, hram⟩, hout, hon⟩

theorem madctl_mem_of_middleHasPurposes (h : c.middleHasPurposes = true) : ∃ m, .cmd c.opMadctl [m] ∈ c.initMiddle := by
  obtain ⟨k, -, hk⟩ := List.any_eq_true.1 h
  rw [Bool.and_eq_true] at hk
  obtain ⟨-, hk⟩ := hk
  split at hk
  · rename_i e he
    unfold Config.madctlParam at hk
    split at hk
    · rename_i op m
      split at hk
      · rename_i hop
        subst hop
        exact ⟨m, List.mem_of_getElem? he⟩
      · cases hk
    · cases hk
    · cases hk
  · cases hk

theorem exists_tableShape (h : c.tableConforms = true) : ∃ pRst mid pOut pOn, TableShape c pRst mid pOut pOn := by
  simp only [Config.tableConforms, Bool.and_eq_true] at h
  obtain ⟨⟨⟨⟨⟨hstart, hend⟩, hcmd⟩, havoid⟩, -⟩, hpurposes⟩ := h
  obtain ⟨pRst, hfirst⟩ := table_of_startsWithReset hstart
  obtain ⟨pOut, pOn, hlast⟩ := table_of_endsWithDisplayOn hend
  refine ⟨pRst, c.initMiddle, pOut, pOn, ?_, fun _ he => middleOp_of_mem hcmd havoid he,
    madctl_mem_of_middleHasPurposes hpurposes⟩
  rw [hlast] at hfirst
  exact hfirst

theorem plainOp_slpout (h : c.distinctOps = true) : PlainOp c c.opSlpout := by
  have hnodup := of_decide_eq_true h
  constructor <;> rintro he <;> simp [Config.ops, he] at hnodup

theorem plainOp_dispon (h : c.distinctOps = true) : PlainOp c c.opDispon := by
  have hnodup := of_decide_eq_true h
  constructor <;> rintro he <;> simp [Config.ops, he] at hnodup

theorem isWindowCmd_swreset (h : c.distinctOps = true) : isWindowCmd c c.opSwreset = false := by
  have hnodup := of_decide_eq_true h
  simp only [Config.ops, List.nodup_cons, List.mem_cons, not_or] at hnodup
  simp [isWindowCmd, hnodup]

theorem PlainOp.isWindowCmd {op : Byte} (h : PlainOp c op) : isWindowCmd c op = false := by
  simp [Machine.isWindowCmd, h.caset, h.paset]

/-- A wait, or a command that is plain. -/
def PlainEntry (c : Config) (e : InitEntry) : Prop := ∀ op ps, e = .cmd op ps → PlainOp c op

/-- After the software reset the table holds plain entries alone. -/
theorem TableShape.plain_of_mem {pRst pOut pOn : List Byte} {mid : List InitEntry} (h : TableShape c pRst mid pOut pOn)
    (hd : c.distinctOps = true) {e : InitEntry} (he : e ∈ c.initTable.tail) : PlainEntry c e := by
  rintro op ps rfl
  rw [h.table, List.tail_cons, List.mem_cons, List.mem_append] at he
  obtain he | he | he := he
  · cases he
  · obtain ⟨op', ps', heq, hmiddle⟩ := h.middle _ he
    cases heq
    exact hmiddle.toPlainOp
  · simp only [List.mem_cons, InitEntry.cmd.injEq, reduceCtorEq, List.not_mem_nil, false_or, or_false] at he
    obtain ⟨rfl, -⟩ | ⟨rfl, -⟩ := he
    · exact plainOp_slpout hd
    · exact plainOp_dispon hd

/-! ### What the panel is told (R76, R98, R102) -/

theorem eq_of_tableSelects {m : Byte} (h : c.tableSelects m = true) {ps : List Byte}
    (he : .cmd c.opMadctl ps ∈ c.initTable) : ps = [m] := by
  simpa using List.all_eq_true.1 h _ he

/-- Memory-access-control tells the panel its orientation, whatever it was told before. -/
theorem PanelView.orientation_after_madctl (v : PanelView) (m : Byte) :
    (v.after c (entryEvents .low .high (.cmd c.opMadctl [m]))).orientation = some m := by
  simp [entryEvents, PanelView.see]

/-- Where memory-access-control carries `m` alone, a plain entry leaves the orientation `m`. -/
theorem PanelView.orientation_after_plain {v : PanelView} {m : Byte} {e : InitEntry} (hplain : PlainEntry c e)
    (hsel : ∀ ps, e = .cmd c.opMadctl ps → ps = [m]) (hv : v.orientation = some m) :
    (v.after c (entryEvents .low .high e)).orientation = some m := by
  cases e with
  | wait k => simpa [entryEvents] using hv
  | cmd op ps =>
    by_cases hop : op = c.opMadctl
    · subst hop
      rw [hsel ps rfl]
      exact v.orientation_after_madctl m
    · rw [entryEvents, PanelView.after_other_command hop (hplain op ps rfl).swreset]
      exact hv

/-- Plain entries with a memory-access-control entry among them leave the orientation it carries. -/
theorem PanelView.orientation_after_entries {v : PanelView} {m : Byte} {es : List InitEntry}
    (hplain : ∀ e ∈ es, PlainEntry c e) (hsel : ∀ ps, .cmd c.opMadctl ps ∈ es → ps = [m])
    (h : .cmd c.opMadctl [m] ∈ es ∨ v.orientation = some m) :
    (v.after c (es.flatMap (entryEvents .low .high))).orientation = some m := by
  induction es generalizing v with
  | nil => exact h.resolve_left (by simp)
  | cons e rest ih =>
    rw [List.forall_mem_cons] at hplain
    obtain ⟨hfirst, hrest⟩ := hplain
    rw [List.flatMap_cons, PanelView.after_append]
    refine ih hrest (fun ps hps => hsel ps (List.mem_cons_of_mem e hps)) ?_
    obtain he | hv := h
    · obtain rfl | he := List.mem_cons.1 he
      · exact .inr (v.orientation_after_madctl m)
      · exact .inl he
    · exact .inr (v.orientation_after_plain hfirst (fun ps he => hsel ps (he ▸ List.mem_cons_self)) hv)

/-- A conforming table that selects `m` leaves the panel with it, whatever the trace held before (R102). -/
theorem panelOrientation_tableEvents {m : Byte} (hwf : c.wf = true) (hsel : c.tableSelects m = true)
    (evs : List Event) : panelOrientation c (evs ++ tableEvents .low .high c) = some m := by
  rw [Config.wf, Bool.and_eq_true] at hwf
  obtain ⟨hdistinct, hconforms⟩ := hwf
  obtain ⟨pRst, mid, pOut, pOn, hshape⟩ := exists_tableShape hconforms
  have htail : c.initTable = .cmd c.opSwreset pRst :: c.initTable.tail := by rw [hshape.table]; rfl
  have hsel (ps : List Byte) (hps : .cmd c.opMadctl ps ∈ c.initTable.tail) : ps = [m] :=
    eq_of_tableSelects hsel (List.mem_of_mem_tail hps)
  have hmem : .cmd c.opMadctl [m] ∈ c.initTable.tail := by
    obtain ⟨n, hn⟩ := hshape.madctl
    have hn : .cmd c.opMadctl [n] ∈ c.initTable.tail := by
      rw [hshape.table]
      exact List.mem_cons_of_mem _ (List.mem_append_left _ hn)
    rwa [hsel [n] hn] at hn
  rw [panelOrientation, PanelView.after_append, tableEvents, htail, List.flatMap_cons, PanelView.after_append]
  exact PanelView.orientation_after_entries (fun _ => hshape.plain_of_mem hdistinct) hsel (.inl hmem)

end

/-! ### What initialize sends (R99, R101) -/

/-- The byte and wait events of the table. -/
def tableOps (c : Config) : List Op := c.initTable.flatMap entryOps

theorem isEvent_of_mem_entries {es : List InitEntry} {o : Op} (h : o ∈ es.flatMap entryOps) : o.isEvent = true := by
  obtain ⟨e, -, he⟩ := List.mem_flatMap.1 h
  exact isEvent_of_mem_entryOps he

theorem sends_wait (k : WaitKind) (s : State) : Sends [.wait k] [.wait k] s :=
  .single (fun _ => rfl) (fun t _ => by simp [opDone, waitEvent]) fun t => by simp [opDone, waitEvent]

theorem sends_entryOps (e : InitEntry) (s : State) :
    Sends (entryOps e) (entryEvents (drivenLevel s .low) (drivenLevel s .high) e) s := by
  cases e with
  | wait k => exact sends_wait k s
  | cmd op ps => exact (sends_command op s).cons (sends_dataBytes ps s)

theorem sends_tableOps (s : State) :
    Sends (tableOps s.cfg) (tableEvents (drivenLevel s .low) (drivenLevel s .high) s.cfg) s :=
  .flatMap fun e _ => sends_entryOps e s

theorem byteCount_dataBytes (bs : List Byte) : byteCount (bs.map .data) = bs.length := by
  induction bs with
  | nil => rfl
  | cons b bs ih => rw [List.map_cons, byteCount_cons, ih, List.length_cons, Nat.add_comm]; rfl

theorem byteCount_tableOps (c : Config) : byteCount (tableOps c) = tableBytes c := by
  have hcmd (op : Byte) (ps : List Byte) : byteCount (entryOps (.cmd op ps)) = ps.length + 1 := by
    rw [entryOps, byteCount_cons, byteCount_dataBytes, Nat.add_comm]; rfl
  unfold tableOps tableBytes
  induction c.initTable with
  | nil => rfl
  | cons e rest ih =>
    rw [List.flatMap_cons, byteCount_append, ih, List.map_cons, List.sum_cons]
    cases e with
    | wait k => rfl
    | cmd op ps => exact congrArg (· + _) (hcmd op ps)

/-- The state after the events of the table, before the registers are written. -/
def afterTable (s : State) : State := opsDone (tableOps s.cfg) (s.begin .initialise)

/-- On a transport that takes the table's bytes initialize ends after the table and its register writes. -/
theorem exec_initialise {s : State} (h : Accepts (tableBytes s.cfg) s) :
    exec .initialise s = .next (setGeometry 0 { afterTable s with initDone := true }).idle := by
  have hbytes : byteCount (initialiseSeq s.cfg) = tableBytes s.cfg := by
    rw [initialiseSeq, byteCount_append, ← tableOps, byteCount_tableOps]; rfl
  obtain ⟨hready, -, -⟩ := sends_tableOps s (s.begin .initialise) ⟨rfl, rfl, rfl, rfl⟩
  have hready : elemsReady (initialiseSeq s.cfg) (s.begin .initialise) = true := by
    rw [initialiseSeq, elemsReady_append, ← tableOps, hready]; rfl
  rw [exec, execInitialise, runRequest_accepts (by rwa [hbytes]) hready, initialiseSeq, opsDone_append]
  rfl

theorem afterTable_trace (s : State) :
    (afterTable s).trace = s.trace ++ tableEvents (drivenLevel s .low) (drivenLevel s .high) s.cfg :=
  (sends_tableOps s (s.begin .initialise) ⟨rfl, rfl, rfl, rfl⟩).2.1

theorem afterTable_trace_of_configured {s : State} (h : s.dcCfg = true) :
    (afterTable s).trace = s.trace ++ tableEvents .low .high s.cfg := by
  rw [afterTable_trace, drivenLevel, drivenLevel, if_pos h, if_pos h]

/-- Settles O20: the frame is that of every request; the panel sees the events of the table. -/
theorem initializeRunsTheTableAndWritesTheRegisters : Obligations.InitializeRunsTheTableAndWritesTheRegisters := by
  intro s hacc
  have hexec := exec_initialise hacc
  have hcursor := exec_cursor hexec nofun
  have horientation (m : Byte) (hsel : s.cfg.tableSelects m = true) (hwf : s.cfg.wf = true) (hc : s.dcCfg = true) :
      panelOrientation s.cfg (afterTable s).trace = some m := by
    rw [afterTable_trace_of_configured hc]
    exact panelOrientation_tableEvents hwf hsel s.trace
  exact ⟨_, hexec, rfl, afterTable_trace s, rfl, fun hportrait => ⟨rfl, rfl, rfl, horientation _ hportrait⟩,
    horientation, hcursor.1, hcursor.2, (exec_dcCfg hexec nofun).1, exec_fault hexec nofun, exec_refused hexec nofun,
    (opsDone_sticky (tableOps s.cfg) (s.begin .initialise)).viol⟩

/-! ### The order of its events (R104 items 1 to 3) -/

/-- The middle commands send no wait and no command byte but their own. -/
theorem middle_event_cases {c : Config} {mid : List InitEntry} (h : ∀ e ∈ mid, ∃ op ps, e = .cmd op ps ∧ MiddleOp c op)
    {ev : Event} (hev : ev ∈ mid.flatMap (entryEvents .low .high)) :
    (∃ op, ev = .byte .low op ∧ MiddleOp c op) ∨ ∃ b, ev = .byte .high b := by
  obtain ⟨e, he, hev⟩ := List.mem_flatMap.1 hev
  obtain ⟨op, ps, rfl, hop⟩ := h e he
  obtain rfl | hev := List.mem_cons.1 hev
  · exact .inl ⟨op, rfl, hop⟩
  · obtain ⟨b, -, rfl⟩ := List.mem_map.1 hev
    exact .inr ⟨b, rfl⟩

theorem TableShape.tableEvents_eq {c : Config} {pRst pOut pOn : List Byte} {mid : List InitEntry}
    (h : TableShape c pRst mid pOut pOn) : tableEvents .low .high c =
      [.byte .low c.opSwreset] ++ pRst.map (.byte .high) ++ [.wait .resetWait] ++ mid.flatMap (entryEvents .low .high) ++
        [.byte .low c.opSlpout] ++ pOut.map (.byte .high) ++ [.wait .sleepOutWait] ++ [.byte .low c.opDispon] ++
        pOn.map (.byte .high) := by
  simp [tableEvents, h.table, entryEvents]

theorem distinct_and_shape_of_wf {c : Config} (h : c.wf = true) :
    c.distinctOps = true ∧ ∃ pRst mid pOut pOn, TableShape c pRst mid pOut pOn := by
  rw [Config.wf, Bool.and_eq_true] at h
  exact h.imp_right exists_tableShape

/-- Settles O21: the events of a conforming table, its middle commands being none of the three named. -/
theorem initializeOrdersResetWaitsAndDisplayOn : Obligations.InitializeOrdersResetWaitsAndDisplayOn := by
  intro s hwf hc hacc
  obtain ⟨-, pRst, mid, pOut, pOn, hshape⟩ := distinct_and_shape_of_wf hwf
  have hmid {ev : Event} (hev : ev ∈ mid.flatMap (entryEvents .low .high)) := middle_event_cases hshape.middle hev
  have hnot {op : Byte} (hop : ¬ MiddleOp s.cfg op) : .byte .low op ∉ mid.flatMap (entryEvents .low .high) := fun hev => by
    obtain ⟨op', heq, hop'⟩ | ⟨b, heq⟩ := hmid hev <;> cases heq
    exact hop hop'
  refine ⟨_, pRst, pOut, pOn, _, exec_initialise hacc, ?_, fun k hk => ?_, hnot fun h => h.swreset rfl,
    hnot fun h => h.slpout rfl, hnot fun h => h.dispon rfl⟩
  · change (afterTable s).trace = _
    rw [afterTable_trace_of_configured hc, hshape.tableEvents_eq]
    simp only [List.append_assoc]
  · obtain ⟨op, heq, -⟩ | ⟨b, heq⟩ := hmid hk <;> cases heq

/-! ### Where it leaves the tracker (R104 item 4) -/

/-- The pin is configured, the tracker holds the parameters of a command `op` that is no window command, it knows no
window, and the marks are `v`. -/
structure InCommand (c : Config) (v : Marks) (op : Byte) (t : State) : Prop where
  dcCfg : t.dcCfg = true
  cfg : t.cfg = c
  noWindow : isWindowCmd c op = false
  proto : t.proto = .param op []
  winSc : t.winSc = none
  winEc : t.winEc = none
  winSp : t.winSp = none
  winEp : t.winEp = none
  viol : t.viol = v

section
variable {c : Config} {v : Marks} {op : Byte} {s t : State}

theorem InCommand.of_sameTracker (h : InCommand c v op s) (hsame : SameTracker s t) (hc : t.dcCfg = true) :
    InCommand c v op t :=
  ⟨hc, hsame.cfg.trans h.cfg, h.noWindow, hsame.proto.trans h.proto, hsame.winSc.trans h.winSc,
    hsame.winEc.trans h.winEc, hsame.winSp.trans h.winSp, hsame.winEp.trans h.winEp, hsame.viol.trans h.viol⟩

theorem opDone_dcCfg {o : Op} (ho : o.isEvent = true) (s : State) : (opDone o s).dcCfg = s.dcCfg :=
  (opDone_panel ho s).dcCfg

/-- The tracker does not look at the parameters of such a command (R113). -/
theorem InCommand.data (h : InCommand c v op s) (b : Byte) : InCommand c v op (opDone (.data b) s) := by
  have htrack : track .high b s = s := by simp [track, trackData, h.proto, h.cfg, h.noWindow]
  have hraw := ((SameTracker.refl s).withDc .high).opDone_raw h.dcCfg nofun b
  rw [show ({ s with dc := .high } : State).dc = .high from rfl, htrack, ← driveDc_of_configured h.dcCfg,
    ← opDone_data] at hraw
  exact h.of_sameTracker hraw ((opDone_dcCfg rfl s).trans h.dcCfg)

/-- A command byte leaves its context and opens the next without a mark (R108, R109). -/
theorem InCommand.command (h : InCommand c v op s) {next : Byte} (hnext : PlainOp c next) :
    InCommand c v next (opDone (.command next) s) := by
  have hclose : closeContext s = s := by simp [closeContext, h.proto, h.cfg, h.noWindow]
  have hopen : track .low next s = { s with proto := .param next [] } := by
    rw [track, hclose, openContext, h.cfg, if_neg hnext.ramwr, if_neg hnext.swreset]
  have hsame := (SameTracker.refl s).opDone_command h.dcCfg next
  rw [hopen] at hsame
  have hmoved : InCommand c v next { s with proto := .param next [] } :=
    ⟨h.dcCfg, h.cfg, hnext.isWindowCmd, rfl, h.winSc, h.winEc, h.winSp, h.winEp, h.viol⟩
  exact hmoved.of_sameTracker hsame ((opDone_dcCfg rfl s).trans h.dcCfg)

theorem InCommand.wait (h : InCommand c v op s) (k : WaitKind) : InCommand c v op (opDone (.wait k) s) := by
  obtain ⟨hdc, hcfg, hop, hproto, hsc, hec, hsp, hep, hviol⟩ := h
  exact ⟨hdc, hcfg, hop, hproto, hsc, hec, hsp, hep, hviol⟩

theorem InCommand.params (h : InCommand c v op s) (ps : List Byte) : InCommand c v op (opsDone (ps.map .data) s) := by
  induction ps generalizing s with
  | nil => exact h
  | cons b rest ih => exact ih (h.data b)

/-- Entries of the table that are plain keep the tracker at a command, and mark nothing. -/
theorem InCommand.entries (h : InCommand c v op s) {es : List InitEntry} (hplain : ∀ e ∈ es, PlainEntry c e) :
    ∃ last, InCommand c v last (opsDone (es.flatMap entryOps) s) := by
  induction es generalizing s op with
  | nil => exact ⟨op, h⟩
  | cons e rest ih =>
    rw [List.forall_mem_cons] at hplain
    obtain ⟨hfirst, hrest⟩ := hplain
    rw [List.flatMap_cons, opsDone_append]
    cases e with
    | wait k => exact ih (h.wait k) hrest
    | cmd next ps => exact ih ((h.command (hfirst next ps rfl)).params ps) hrest

theorem closeContext_cfg (s : State) : (closeContext s).cfg = s.cfg := by
  obtain ⟨_, _, _, _, _, _, h⟩ := closeContext_shape s; rw [h]

theorem closeContext_dcCfg (s : State) : (closeContext s).dcCfg = s.dcCfg := by
  obtain ⟨_, _, _, _, _, _, h⟩ := closeContext_shape s; rw [h]

/-- A software reset byte closes whatever context there is and forgets the window (R108, R109). -/
theorem inCommand_swreset (hd : s.cfg.distinctOps = true) (hc : s.dcCfg = true) :
    InCommand s.cfg (closeContext s).viol s.cfg.opSwreset (opDone (.command s.cfg.opSwreset) s) := by
  have hramwr : s.cfg.opSwreset ≠ s.cfg.opRamwr := fun he => by simpa [Config.ops, he] using of_decide_eq_true hd
  have hopen : track .low s.cfg.opSwreset s =
      { forgetWindow (closeContext s) with proto := .param s.cfg.opSwreset [] } := by
    rw [track, openContext, closeContext_cfg, if_neg hramwr, if_pos rfl]
  have hsame := (SameTracker.refl s).opDone_command hc s.cfg.opSwreset
  rw [hopen] at hsame
  have hreset : InCommand s.cfg (closeContext s).viol s.cfg.opSwreset
      { forgetWindow (closeContext s) with proto := .param s.cfg.opSwreset [] } :=
    ⟨(closeContext_dcCfg s).trans hc, closeContext_cfg s, isWindowCmd_swreset hd, rfl, rfl, rfl, rfl, rfl, rfl⟩
  exact hreset.of_sameTracker hsame ((opDone_dcCfg rfl s).trans hc)

/-- Closing a context marks at most what is left open in it (R108). -/
theorem has_closeContext {w : Violation} (h : (closeContext s).viol.has w = true) :
    s.viol.has w = true ∨ w = .countMismatch ∨ w = .paramIncomplete := by
  unfold closeContext at h
  split at h
  · exact .inl h
  · split at h
    · simp only [forgetRange_viol, State.mark_viol, Marks.has_add, Bool.or_eq_true, decide_eq_true_eq] at h
      obtain rfl | h := h
      · exact .inr (.inr rfl)
      · exact .inl h
    · exact .inl h
  · exact .inl h
  · simp only [State.has_markIf, Bool.or_eq_true, Bool.and_eq_true, decide_eq_true_eq] at h
    obtain ⟨-, rfl⟩ | h := h
    · exact .inr (.inl rfl)
    · exact .inl h

end

/-- The table up to display-on, and display-on with its parameters. -/
theorem TableShape.tableOps_eq {c : Config} {pRst pOut pOn : List Byte} {mid : List InitEntry}
    (h : TableShape c pRst mid pOut pOn) : ∃ es : List InitEntry, (∀ e ∈ es, e ∈ c.initTable.tail) ∧
      tableOps c = .command c.opSwreset :: (pRst.map .data ++ (es.flatMap entryOps ++
        .command c.opDispon :: pOn.map .data)) :=
  ⟨.wait .resetWait :: (mid ++ [.cmd c.opSlpout pOut, .wait .sleepOutWait]), fun e he => by
    rw [h.table, List.tail_cons]
    simp only [List.mem_cons, List.mem_append] at he ⊢
    tauto, by simp [tableOps, h.table, entryOps]⟩

/-- With the pin configured a conforming table leaves the tracker in display-on's context (R104 item 4). -/
theorem inCommand_afterTable {s : State} (hwf : s.cfg.wf = true) (hc : s.dcCfg = true) :
    InCommand s.cfg (closeContext (s.begin .initialise)).viol s.cfg.opDispon (afterTable s) := by
  obtain ⟨hdistinct, pRst, mid, pOut, pOn, hshape⟩ := distinct_and_shape_of_wf hwf
  obtain ⟨es, htail, hops⟩ := hshape.tableOps_eq
  have hreset := inCommand_swreset (s := s.begin .initialise) hdistinct hc
  obtain ⟨last, hlast⟩ := (hreset.params pRst).entries fun e he => hshape.plain_of_mem hdistinct (htail e he)
  rw [afterTable, hops, opsDone_cons, opsDone_append, opsDone_append]
  exact (hlast.command (plainOp_dispon hdistinct)).params pOn

/-- A display-on without parameters leaves the level Undef (R87). -/
theorem afterTable_dc {s : State} (hc : s.dcCfg = true)
    (hlast : s.cfg.initTable.getLast? = some (.cmd s.cfg.opDispon [])) : (afterTable s).dc = .undef := by
  obtain ⟨init, hinit⟩ := List.getLast?_eq_some_iff.1 hlast
  have hdc : (opsDone (init.flatMap entryOps) (s.begin .initialise)).dcCfg = true :=
    ((opsDone_sameRegisters _ _).dcCfg fun hm => nomatch isEvent_of_mem_entries hm).trans hc
  rw [afterTable, tableOps, hinit, List.flatMap_append, opsDone_append]
  exact opDone_command_dc hdc _

theorem afterByte_proto (o : Op) (s : State) : (afterByte o s).proto = s.proto := by
  cases o <;> simp [afterByte]

theorem opDone_byte_proto_of_unconfigured {o : Op} (h : o.isByte = true) {s : State} (hc : s.dcCfg = false) :
    (opDone o s).proto = .unknown := by
  rw [opDone_of_isByte h, byteLevel_of_unconfigured o hc, afterByte_proto]
  rfl

/-- Before dc_init events leave a tracker that knows nothing as it is (R107). -/
theorem opsDone_proto_of_unconfigured {ops : List Op} (h : ∀ o ∈ ops, o.isEvent = true) {s : State}
    (hc : s.dcCfg = false) (hp : s.proto = .unknown) : (opsDone ops s).proto = .unknown := by
  induction ops generalizing s with
  | nil => exact hp
  | cons o rest ih =>
    rw [List.forall_mem_cons] at h
    obtain ⟨ho, hrest⟩ := h
    refine ih hrest ((opDone_dcCfg ho s).trans hc) ?_
    cases hb : o.isByte with
    | true => exact opDone_byte_proto_of_unconfigured hb hc
    | false =>
      cases o with
      | wait k => exact hp
      | command b | data b | raw b | elemFirst a | elemSecond a => cases hb
      | _ => cases ho

/-- Without dc_init a conforming table leaves the tracker at Unknown (R104 item 4). -/
theorem afterTable_proto_of_unconfigured {s : State} (hwf : s.cfg.wf = true) (hc : s.dcCfg = false) :
    (afterTable s).proto = .unknown := by
  obtain ⟨-, pRst, mid, pOut, pOn, hshape⟩ := distinct_and_shape_of_wf hwf
  obtain ⟨es, -, hops⟩ := hshape.tableOps_eq
  have hevents : ∀ o ∈ tableOps s.cfg, o.isEvent = true := fun _ => isEvent_of_mem_entries
  rw [afterTable]
  rw [hops] at hevents ⊢
  rw [List.forall_mem_cons] at hevents
  have hc : (s.begin .initialise).dcCfg = false := hc
  exact opsDone_proto_of_unconfigured hevents.2 ((opDone_dcCfg rfl _).trans hc)
    (opDone_byte_proto_of_unconfigured rfl hc)

/-- Settles O22: the software reset closes the context initialize finds, and no entry after it marks anything. -/
theorem initializeLeavesTheTrackerInDisplayOn : Obligations.InitializeLeavesTheTrackerInDisplayOn := by
  intro s hwf hacc
  refine ⟨_, exec_initialise hacc, fun hc => ?_, afterTable_proto_of_unconfigured hwf⟩
  have htracker := inCommand_afterTable hwf hc
  refine ⟨htracker.proto, htracker.winSc, htracker.winEc, htracker.winSp, htracker.winEp, afterTable_dc hc,
    fun v hv => ?_⟩
  have hv : (afterTable s).viol.has v = true := hv
  rw [htracker.viol] at hv
  exact has_closeContext (s := s.begin .initialise) hv

end Sys2Proof.Machine
end

section
/-! Host memory reaches only the values of pixel bytes (R188): two runs that differ in host memory, in the value of the
element at hand and in the values of bytes in the trace go the same way, operation by operation, because the tracker does
not look at the value of a byte in a stream. -/

namespace Sys2Proof.Machine

/-- The state `t` is `s` with host memory `m` and, unless `same` holds, with other values of the element at hand and of the
bytes in the trace. -/
def PixelAlike (same : Prop) (m : Memory) (s t : State) : Prop :=
  ∃ e tr, e.isSome = s.elem.isSome ∧ tr.map eventShape = s.trace.map eventShape ∧
    (same → e = s.elem ∧ tr = s.trace) ∧ t = { s with mem := m, elem := e, trace := tr }

namespace PixelAlike

theorem withMem (same : Prop) (m : Memory) (s : State) : PixelAlike same m s { s with mem := m } :=
  ⟨s.elem, s.trace, rfl, rfl, fun _ => ⟨rfl, rfl⟩, rfl⟩

section
variable {same : Prop} {m : Memory} {s t : State} (h : PixelAlike same m s t)
include h

/-! ### What is read is the same -/

theorem cfg : t.cfg = s.cfg := by obtain ⟨e, tr, -, -, -, rfl⟩ := h; rfl

theorem mem : t.mem = m := by obtain ⟨e, tr, -, -, -, rfl⟩ := h; rfl

theorem dcCfg : t.dcCfg = s.dcCfg := by obtain ⟨e, tr, -, -, -, rfl⟩ := h; rfl

theorem initDone : t.initDone = s.initDone := by obtain ⟨e, tr, -, -, -, rfl⟩ := h; rfl

theorem proto : t.proto = s.proto := by obtain ⟨e, tr, -, -, -, rfl⟩ := h; rfl

theorem accepts : t.accepts = s.accepts := by obtain ⟨e, tr, -, -, -, rfl⟩ := h; rfl

theorem effLevel_eq : effLevel t = effLevel s := by obtain ⟨e, tr, -, -, -, rfl⟩ := h; rfl

theorem sameTracker : SameTracker s t := by
  obtain ⟨e, tr, -, -, -, rfl⟩ := h
  exact ⟨rfl, rfl, rfl, rfl, rfl, rfl, rfl, rfl, rfl⟩

/-! ### What is written is the same -/

theorem markIf (p : Bool) (v : Violation) : PixelAlike same m (s.markIf p v) (t.markIf p v) := by
  obtain ⟨e, tr, he, htr, hsame, rfl⟩ := h
  cases p <;> exact ⟨e, tr, he, htr, hsame, rfl⟩

theorem withElem {e e' : Option Half} (he : e'.isSome = e.isSome) (hsame : same → e' = e) :
    PixelAlike same m { s with elem := e } { t with elem := e' } := by
  obtain ⟨_, tr, -, htr, hst, rfl⟩ := h
  exact ⟨e', tr, he, htr, fun hs => ⟨hsame hs, (hst hs).2⟩, rfl⟩

theorem driveDc (l : DcLevel) : PixelAlike same m (driveDc l s) (driveDc l t) := by
  simp only [Machine.driveDc, h.dcCfg]
  split
  · obtain ⟨e, tr, he, htr, hsame, rfl⟩ := h; exact ⟨e, tr, he, htr, hsame, rfl⟩
  · exact h.markIf true _

theorem releaseDc : PixelAlike same m (releaseDc s) (releaseDc t) := by
  simp only [Machine.releaseDc, h.dcCfg]
  split
  · obtain ⟨e, tr, he, htr, hsame, rfl⟩ := h; exact ⟨e, tr, he, htr, hsame, rfl⟩
  · exact h

theorem markLevel : PixelAlike same m (markLevel s) (markLevel t) := by
  simp only [Machine.markLevel, h.dcCfg, h.effLevel_eq]
  exact (h.markIf _ _).markIf _ _

/-- A byte is accepted on both sides, with values that the tracker does not tell apart. -/
theorem sentByte {l : DcLevel} {b b' : Byte} (htrack : track l b' s = track l b s) (hsame : same → b' = b) :
    PixelAlike same m (sentByte l b s) (sentByte l b' t) := by
  rw [h.sameTracker.sentByte_eq, htrack, (SameTracker.refl s).sentByte_eq]
  obtain ⟨e, tr, he, htr, hst, rfl⟩ := h
  refine ⟨e, tr ++ [.byte l b'], he, ?_, fun hs => ?_, rfl⟩
  · change _ = (s.trace ++ [Event.byte l b]).map eventShape
    simp [htr, eventShape]
  · obtain ⟨rfl, rfl⟩ := hst hs
    rw [hsame hs]
    exact ⟨rfl, rfl⟩

theorem afterByte (o : Op) : PixelAlike same m (afterByte o s) (afterByte o t) := by
  cases o with
  | command b => exact h.releaseDc
  | elemSecond a => exact h.withElem rfl fun _ => rfl
  | _ => exact h

theorem byteLevel_eq (o : Op) : byteLevel o t = byteLevel o s := by
  cases o <;> simp only [byteLevel, h.effLevel_eq, (h.driveDc _).effLevel_eq]

/-- A byte event that waits alike on both sides, and sends bytes that the tracker does not tell apart, ends alike. -/
theorem opDone_of_wait {o : Op} (ho : o.isByte = true) (hwait : PixelAlike same m (opWait o s) (opWait o t))
    (htrack : track (byteLevel o s) (opByte o t) (opWait o s) = track (byteLevel o s) (opByte o s) (opWait o s))
    (hsame : same → opByte o t = opByte o s) : PixelAlike same m (opDone o s) (opDone o t) := by
  rw [opDone_of_isByte ho, opDone_of_isByte ho, h.byteLevel_eq]
  exact (hwait.sentByte htrack hsame).afterByte o

theorem idle : PixelAlike same m s.idle t.idle := by
  obtain ⟨e, tr, -, htr, hst, rfl⟩ := h
  exact ⟨none, tr, rfl, htr, fun hs => ⟨rfl, (hst hs).2⟩, rfl⟩

theorem begin (i : Instr) : PixelAlike same m (s.begin i) (t.begin i) := by
  obtain ⟨e, tr, -, htr, hst, rfl⟩ := h
  exact ⟨none, tr, rfl, htr, fun hs => ⟨rfl, (hst hs).2⟩, rfl⟩

/-! ### Operations that read no element -/

theorem opWait {o : Op} (ho : o.readsElement = false) : PixelAlike same m (opWait o s) (opWait o t) := by
  cases o with
  | elemFirst a | elemSecond a => cases ho
  | command b | data b => exact (h.driveDc _).markLevel
  | raw b => exact h.markLevel
  | _ => exact h

theorem opDone {o : Op} (ho : o.readsElement = false) : PixelAlike same m (opDone o s) (opDone o t) := by
  cases hb : o.isByte with
  | true =>
    have hbyte : opByte o t = opByte o s := by
      cases o with
      | elemFirst a | elemSecond a => cases ho
      | _ => rfl
    exact h.opDone_of_wait hb (h.opWait ho) (by rw [hbyte]) fun _ => hbyte
  | false =>
    cases o with
    | driveDc l => exact h.driveDc l
    | drawingCheck => simpa only [Machine.opDone, drawingCheck, h.initDone] using h.markIf _ _
    | streamCheck n => simpa only [Machine.opDone, streamCheck, h.proto] using h.markIf _ _
    | command b | data b | raw b | elemFirst a | elemSecond a => cases hb
    | wait k =>
      obtain ⟨e, tr, he, htr, hst, rfl⟩ := h
      refine ⟨e, tr ++ [.wait k], he, ?_, fun hs => ?_, rfl⟩
      · change _ = (s.trace ++ [Event.wait k]).map eventShape
        simp [htr]
      · obtain ⟨rfl, rfl⟩ := hst hs
        exact ⟨rfl, rfl⟩
    | _ => obtain ⟨e, tr, he, htr, hst, rfl⟩ := h; exact ⟨e, tr, he, htr, hst, rfl⟩

end

end PixelAlike

/-! ### Runs that go the same way -/

section
variable {R : State → State → Prop} {s t : State}

theorem SameProgress.mono {R' : State → State → Prop} {p q : Progress} (h : SameProgress R p q)
    (hR : ∀ s t, R s t → R' s t) : SameProgress R' p q := by
  obtain h | ⟨why, h⟩ := h
  · exact .done (hR _ _ h)
  · exact .stuck why (hR _ _ h)

/-- An operation that finds its element and the transport alike goes the same way. -/
theorem sameProgress_runOp {o : Op} (h : R s t) (hready : elemReady o t = elemReady o s) (hacc : t.accepts = s.accepts)
    (hwait : R (opWait o s) (opWait o t)) (hdone : R (opDone o s) (opDone o t)) :
    SameProgress R (runOp o s) (runOp o t) := by
  rw [runOp_eq, runOp_eq, hready, hacc]
  split
  · exact .stuck _ h
  · split
    · exact .stuck _ hwait
    · exact .done hdone

theorem sameProgress_runOps {ops : List Op}
    (hstep : ∀ o ∈ ops, ∀ s t, R s t → SameProgress R (runOp o s) (runOp o t)) (h : R s t) :
    SameProgress R (runOps ops s) (runOps ops t) := by
  induction ops generalizing s t with
  | nil => exact .done h
  | cons o rest ih =>
    rw [List.forall_mem_cons] at hstep
    obtain ⟨hfirst, hrest⟩ := hstep
    have hop := hfirst s t h
    rw [runOps, runOps]
    revert hop
    generalize runOp o s = p, runOp o t = q
    rintro (hst | ⟨why, hst⟩)
    · exact ih hrest hst
    · exact .stuck why hst

/-- Sequences that go the same way one after the other go the same way together. -/
theorem sameProgress_runOps_append {a b : List Op} (ha : SameProgress R (runOps a s) (runOps a t))
    (hb : R (opsDone a s) (opsDone a t) →
      SameProgress R (runOps b (opsDone a s)) (runOps b (opsDone a t))) :
    SameProgress R (runOps (a ++ b) s) (runOps (a ++ b) t) := by
  have hs (u : State) : runOps a s = .done u → u = opsDone a s := runOps_done
  have ht (u : State) : runOps a t = .done u → u = opsDone a t := runOps_done
  rw [runOps_append, runOps_append]
  revert ha hs ht
  generalize runOps a s = p, runOps a t = q
  rintro (hst | ⟨why, hst⟩) hs ht
  · cases hs _ rfl
    cases ht _ rfl
    exact hb hst
  · exact .stuck why hst

theorem sameOutcome_runRequest {i : Instr} {ops : List Op} (hidle : ∀ s t, R s t → R s.idle t.idle)
    (hrun : SameProgress R (runOps ops (s.begin i)) (runOps ops (t.begin i))) :
    SameOutcome R (runRequest i ops s) (runRequest i ops t) := by
  rw [runRequest, runRequest]
  revert hrun
  generalize runOps ops (s.begin i) = p, runOps ops (t.begin i) = q
  rintro (hst | ⟨why, hst⟩)
  · exact .next (hidle _ _ hst)
  · exact .next hst

end

section
variable {same : Prop} {m : Memory} {s t : State}

/-- A sequence that reads no element goes the same way. -/
theorem PixelAlike.runOps {ops : List Op} (hops : ∀ o ∈ ops, o.readsElement = false) (h : PixelAlike same m s t) :
    SameProgress (PixelAlike same m) (runOps ops s) (runOps ops t) := by
  refine sameProgress_runOps (fun o ho s t h => ?_) h
  have ho := hops o ho
  have hready : elemReady o t = elemReady o s := by
    rw [elemReady_of_not_readsElement ho, elemReady_of_not_readsElement ho]
  exact sameProgress_runOp h hready h.accepts (h.opWait ho) (h.opDone ho)

/-! ### Requests without elements -/

theorem readsElement_of_mem_windowOps {c : Config} {x y w k : Half} {o : Op} (h : o ∈ windowOps c x y w k) :
    o.readsElement = false := by
  revert o; simp [windowOps, rangeOps, Op.readsElement]

theorem readsElement_of_mem_colorOps {color : Half} {n : Nat} {o : Op} (h : o ∈ colorOps color n) :
    o.readsElement = false := by
  obtain rfl | ⟨b, rfl⟩ := mem_colorOps h <;> rfl

theorem readsElement_of_mem_entryOps {e : InitEntry} {o : Op} (h : o ∈ entryOps e) : o.readsElement = false := by
  revert o; cases e <;> simp [entryOps, Op.readsElement]

/-- Only the sequence of push_pixels reads host memory (R188). -/
theorem readsElement_of_mem_sequenceOf {c : Config} {i : Instr} {o : Op} (h : o ∈ sequenceOf c i)
    (hi : ∀ x y w k buf, i ≠ .pushPixels x y w k buf) : o.readsElement = false := by
  have hcheck {o : Op} {ops : List Op} (hops : ∀ p ∈ ops, p.readsElement = false) (ho : o ∈ .drawingCheck :: ops) :
      o.readsElement = false := by
    obtain rfl | ho := List.mem_cons.1 ho
    · rfl
    · exact hops o ho
  cases i with
  | pushPixels x y w k buf => exact absurd rfl (hi x y w k buf)
  | initialise =>
    obtain h | h := List.mem_append.1 h
    · obtain ⟨e, -, h⟩ := List.mem_flatMap.1 h
      exact readsElement_of_mem_entryOps h
    · obtain rfl | rfl := List.mem_pair.1 h <;> rfl
  | setAddrWindow x y w k => exact hcheck (fun _ => readsElement_of_mem_windowOps) h
  | writeFillRect x y w k color =>
    obtain h | h := List.mem_append.1 h
    · exact hcheck (fun _ => readsElement_of_mem_windowOps) h
    · exact readsElement_of_mem_colorOps h
  | writePixel color => exact hcheck (fun _ => readsElement_of_mem_colorOps) h
  | writeColor color count => exact hcheck (fun _ => readsElement_of_mem_colorOps) h
  | setRotation mode => revert o; simp [sequenceOf, setRotationSeq, Op.readsElement]
  | writeText f a => cases h
  | setCursor x y | dcInit | dcLow | dcHigh | writeCommand b | spiWrite b =>
    obtain rfl := List.mem_singleton.1 h
    rfl

/-- A request that reads no element does the same with another host memory, and keeps it (R188). -/
theorem exec_withMem {i : Instr} (hi : ∀ x y w k buf, i ≠ .pushPixels x y w k buf) (s : State) (m : Memory) :
    exec i { s with mem := m } = mapNext (fun t => { t with mem := m }) (exec i s) := by
  have hrun := sameOutcome_runRequest (i := i) (R := PixelAlike True m) (fun _ _ h => h.idle)
    (((PixelAlike.withMem True m s).begin i).runOps fun o ho => readsElement_of_mem_sequenceOf (c := s.cfg) ho hi)
  have heq : runRequest i (sequenceOf s.cfg i) { s with mem := m } =
      mapNext (fun t => { t with mem := m }) (runRequest i (sequenceOf s.cfg i) s) := by
    revert hrun
    generalize runRequest i (sequenceOf s.cfg i) s = p, runRequest i (sequenceOf s.cfg i) { s with mem := m } = q
    rintro (⟨e, tr, -, -, hsame, rfl⟩ | why)
    · obtain ⟨rfl, rfl⟩ := hsame trivial
      rfl
    · rfl
  cases i with
  | pushPixels x y w k buf => exact absurd rfl (hi x y w k buf)
  | writeText f a => rfl
  | _ => exact heq

end

/-! ### The elements of push_pixels -/

/-- The two operations of the element at `a` (R131). -/
def IsElementOp (a : Word) (o : Op) : Prop := o = .elemFirst a ∨ o = .elemSecond a

section
variable {a : Word} {o : Op} (ho : IsElementOp a o) {s : State}
include ho

theorem IsElementOp.isByte : o.isByte = true := by obtain rfl | rfl := ho <;> rfl

theorem IsElementOp.elemReady_eq : elemReady o s = (elementAt a s).isSome := by obtain rfl | rfl := ho <;> rfl

theorem IsElementOp.byteLevel_eq : byteLevel o s = drivenLevel s .high := by
  obtain rfl | rfl := ho <;> exact effLevel_driveDc .high s

theorem IsElementOp.opWait_eq {v : Half} (h : elementAt a s = some v) :
    opWait o s = markLevel (driveDc .high { s with elem := some v }) := by
  obtain rfl | rfl := ho <;> exact opWait_elemFirst h

end

/-- A configured pin sends into an open stream. -/
def StreamOpen (s : State) : Prop := s.dcCfg = true → s.proto.isStream = true

/-- In a stream the tracker does not look at the value of a data byte (R114), and at Undef at no byte (R107). -/
theorem track_byte_eq {s : State} (h : StreamOpen s) (b b' : Byte) :
    track (drivenLevel s .high) b' s = track (drivenLevel s .high) b s := by
  unfold drivenLevel
  split
  · rename_i hc
    have hs := h hc
    rcases hp : s.proto with _ | ⟨c, acc⟩ | _ | _ | n <;>
      simp only [hp, ProtoState.isStream, Bool.false_eq_true] at hs <;> simp only [track, trackData, hp]
  · rfl

theorem StreamOpen.opWait {s : State} (h : StreamOpen s) (o : Op) : StreamOpen (opWait o s) := by
  rwa [StreamOpen, opWait_proto, (opWait_panel o s).dcCfg]

/-- The byte of an element leaves the stream open (R114). -/
theorem StreamOpen.opDone {a : Word} {o : Op} (ho : IsElementOp a o) {s : State} (h : StreamOpen s) :
    StreamOpen (opDone o s) := by
  intro hc
  rw [opDone_dcCfg (Op.isEvent_of_isByte ho.isByte)] at hc
  have hlevel : byteLevel o s = .high := ho.byteLevel_eq.trans (if_pos hc)
  have hwait : (Machine.opWait o s).dcCfg = true := (opWait_panel o s).dcCfg.trans hc
  have hin := trackData_inStream (opByte o s)
    (t := record (.byte .high (opByte o s)) (takeByte (Machine.opWait o s)))
    ⟨hwait, h.opWait o hwait, rfl, rfl, rfl, rfl⟩
  rw [opDone_of_isByte ho.isByte, afterByte_proto, hlevel]
  exact hin.isStream

/-- Elements are sent from `s` and from a state like it with host memory `m`: both memories hold the elements, and the
stream is open. -/
structure Streaming (m : Memory) (buf : Word) (n : Nat) (s : State) : Prop where
  holds : ∀ k < n, (readElement s.cfg.hostByteOrder s.mem (elementAddr buf k)).isSome = true
  holds' : ∀ k < n, (readElement s.cfg.hostByteOrder m (elementAddr buf k)).isSome = true
  streamOpen : StreamOpen s

/-- Two states that go through the elements alike. -/
def StreamingAlike (m : Memory) (buf : Word) (n : Nat) (s t : State) : Prop :=
  PixelAlike False m s t ∧ Streaming m buf n s

section
variable {m : Memory} {buf : Word} {n : Nat} {s t : State}

theorem Streaming.of_base (h : Streaming m buf n s) (hbase : SameBase s t) (hopen : StreamOpen t) :
    Streaming m buf n t :=
  ⟨by rw [hbase.cfg, hbase.mem]; exact h.holds, by rw [hbase.cfg]; exact h.holds', hopen⟩

/-- Both bytes of an element are sent alike, whatever its value. -/
theorem sameProgress_elementOp {k : Nat} (hk : k < n) {o : Op} (ho : IsElementOp (elementAddr buf k) o)
    (h : StreamingAlike m buf n s t) : SameProgress (StreamingAlike m buf n) (runOp o s) (runOp o t) := by
  obtain ⟨hst, hstream⟩ := h
  have hat {u : State} (hu : (readElement u.cfg.hostByteOrder u.mem (elementAddr buf k)).isSome = true) :
      ∃ v, elementAt (elementAddr buf k) u = some v := by
    unfold elementAt
    split
    · exact ⟨_, rfl⟩
    · exact Option.isSome_iff_exists.1 hu
  obtain ⟨v, hv⟩ := hat (hstream.holds k hk)
  obtain ⟨v', hv'⟩ := hat (u := t) (by rw [hst.cfg, hst.mem]; exact hstream.holds' k hk)
  have hready : elemReady o t = elemReady o s := by rw [ho.elemReady_eq, ho.elemReady_eq, hv, hv']; rfl
  have hwait : PixelAlike False m (opWait o s) (opWait o t) := by
    rw [ho.opWait_eq hv, ho.opWait_eq hv']
    exact ((hst.withElem (e := some v) (e' := some v') rfl nofun).driveDc .high).markLevel
  have htrack : track (byteLevel o s) (opByte o t) (opWait o s) = track (byteLevel o s) (opByte o s) (opWait o s) := by
    have hlevel : byteLevel o s = drivenLevel (opWait o s) .high := by
      rw [ho.byteLevel_eq, drivenLevel, drivenLevel, (opWait_panel o s).dcCfg]
    rw [hlevel]
    exact track_byte_eq (hstream.streamOpen.opWait o) _ _
  exact sameProgress_runOp ⟨hst, hstream⟩ hready hst.accepts
    ⟨hwait, hstream.of_base (opWait_base o s) (hstream.streamOpen.opWait o)⟩
    ⟨hst.opDone_of_wait ho.isByte hwait htrack nofun,
      hstream.of_base (opDone_base o s) (hstream.streamOpen.opDone ho)⟩

/-- All elements are sent alike. -/
theorem sameProgress_elements (hst : PixelAlike False m s t) (hstream : Streaming m buf n s) :
    SameProgress (PixelAlike False m) (runOps ((List.range n).flatMap (elementOps buf)) s)
      (runOps ((List.range n).flatMap (elementOps buf)) t) := by
  refine SameProgress.mono (R := StreamingAlike m buf n)
    (sameProgress_runOps (fun o ho u w h => ?_) ⟨hst, hstream⟩) fun _ _ h => h.1
  obtain ⟨k, hk, ho⟩ := List.mem_flatMap.1 ho
  exact sameProgress_elementOp (List.mem_range.1 hk) (List.mem_pair.1 ho) h

end

/-- A memory-write command on a configured pin opens a stream (R109). -/
theorem streamOpen_ramwr (s : State) : StreamOpen (opDone (.command s.cfg.opRamwr) s) := by
  intro hc
  rw [opDone_dcCfg rfl] at hc
  rw [((SameTracker.refl s).opDone_command hc s.cfg.opRamwr).proto, track, openContext, closeContext_cfg, if_pos rfl]
  rfl

/-- The operations of push_pixels before its elements. -/
def pushPixelsHead (c : Config) (x y w h : Half) : List Op :=
  .drawingCheck :: windowOps c x y w h ++ [.streamCheck (pixelCount w h)]

theorem pushPixelsSeq_eq (c : Config) (x y w h : Half) (buf : Word) : pushPixelsSeq c x y w h buf =
    pushPixelsHead c x y w h ++ (List.range (pixelCount w h)).flatMap (elementOps buf) := by
  simp [pushPixelsSeq, pushPixelsHead]

theorem readsElement_of_mem_pushPixelsHead {c : Config} {x y w h : Half} {o : Op} (ho : o ∈ pushPixelsHead c x y w h) :
    o.readsElement = false := by
  revert o; simp [pushPixelsHead, windowOps, rangeOps, Op.readsElement]

/-- The window bytes end in the memory-write command (R116). -/
theorem streamOpen_pushPixelsHead (x y w h : Half) (s : State) :
    StreamOpen (opsDone (pushPixelsHead s.cfg x y w h) s) := by
  have hops : pushPixelsHead s.cfg x y w h = (.drawingCheck :: (rangeOps s.cfg.opCaset x (windowEnd x w) ++
      rangeOps s.cfg.opPaset y (windowEnd y h))) ++ [.command s.cfg.opRamwr, .streamCheck (pixelCount w h)] := by
    simp [pushPixelsHead, windowOps]
  rw [hops, opsDone_append]
  generalize hu : opsDone _ s = u
  have hcfg : u.cfg = s.cfg := hu ▸ (opsDone_base _ s).cfg
  rw [← hcfg]
  have hopen := streamOpen_ramwr u
  simpa [StreamOpen, Machine.opDone] using hopen

/-- With another host memory that holds the elements too, push_pixels goes the same way (R188). -/
theorem exec_pushPixels_pixelAlike {x y w h : Half} {buf : Word} {s : State} {m : Memory} {e e' : Nat → Half}
    (he : HoldsElements s buf (pixelCount w h) e) (he' : HoldsElements { s with mem := m } buf (pixelCount w h) e') :
    SameOutcome (PixelAlike False m) (exec (.pushPixels x y w h buf) s)
      (exec (.pushPixels x y w h buf) { s with mem := m }) := by
  simp only [exec, execPushPixels]
  split
  · exact .next ⟨none, s.trace, rfl, rfl, nofun, rfl⟩
  · have hstart := (PixelAlike.withMem False m s).begin (.pushPixels x y w h buf)
    refine sameOutcome_runRequest (fun _ _ h => h.idle) ?_
    rw [pushPixelsSeq_eq]
    refine sameProgress_runOps_append (hstart.runOps fun _ => readsElement_of_mem_pushPixelsHead) fun hst => ?_
    have hbase := opsDone_base (pushPixelsHead s.cfg x y w h) (s.begin (.pushPixels x y w h buf))
    refine sameProgress_elements hst ⟨fun k hk => ?_, fun k hk => ?_,
      streamOpen_pushPixelsHead x y w h (s.begin (.pushPixels x y w h buf))⟩
    · rw [hbase.cfg, hbase.mem]
      exact Option.isSome_of_eq_some (readElement_of_holdsElements he hk)
    · rw [hbase.cfg]
      exact Option.isSome_of_eq_some (readElement_of_holdsElements he' hk)

/-- Settles O53: requests without elements do the same, and push_pixels sends other values of the same bytes. -/
theorem hostMemoryReachesOnlyPixelValues : Obligations.HostMemoryReachesOnlyPixelValues := by
  refine ⟨fun i s m hi => exec_withMem hi s m, fun x y w h buf s m e e' t u he he' ht hu => ?_⟩
  have hsame := exec_pushPixels_pixelAlike (x := x) (y := y) he he'
  rw [ht, hu] at hsame
  obtain ⟨⟨el, tr, hel, htr, -, rfl⟩⟩ := hsame
  exact ⟨htr, hel, rfl⟩

end Sys2Proof.Machine
end

section
/-! The tracker byte by byte (R107 to R114): what a command byte closes and opens, and what a data byte does in each
context, said once for each context. -/

namespace Sys2Proof.Machine

/-- Settles O16: the tracker at Undef is this update. -/
theorem undefByteMakesTheTrackerForget : Obligations.UndefByteMakesTheTrackerForget := fun _ _ => rfl

theorem isWindowCmd_iff {c : Config} {op : Byte} : isWindowCmd c op = true ↔ op = c.opCaset ∨ op = c.opPaset := by
  simp [isWindowCmd]

theorem isWindowCmd_eq_false_iff {c : Config} {op : Byte} :
    isWindowCmd c op = false ↔ op ≠ c.opCaset ∧ op ≠ c.opPaset := by
  simp [isWindowCmd]

theorem opPaset_ne_opCaset {c : Config} (h : c.distinctOps = true) : c.opPaset ≠ c.opCaset := fun he => by
  simpa [Config.ops, he] using of_decide_eq_true h

theorem opSwreset_ne_opRamwr {c : Config} (h : c.distinctOps = true) : c.opSwreset ≠ c.opRamwr := fun he => by
  simpa [Config.ops, he] using of_decide_eq_true h

section
variable {s : State} {op : Byte} {acc : List Byte}

/-! ### Closing a context (R108) -/

theorem forgetRange_caset (s : State) : forgetRange s.cfg.opCaset s = forgetColumns s := if_pos rfl

theorem forgetRange_paset (h : s.cfg.distinctOps = true) : forgetRange s.cfg.opPaset s = forgetPages s :=
  if_neg (opPaset_ne_opCaset h)

/-- A window command cut short is marked, and its range forgotten. -/
theorem closeContext_of_short (hp : s.proto = .param op acc) (hop : isWindowCmd s.cfg op = true)
    (hlen : acc.length < 4) : closeContext s = forgetRange op (s.mark .paramIncomplete) := by
  simp [closeContext, hp, hop, hlen]

/-- Any other group of parameters is left without a mark. -/
theorem closeContext_of_param (hp : s.proto = .param op acc) (h : 4 ≤ acc.length ∨ isWindowCmd s.cfg op = false) :
    closeContext s = s := by
  obtain h | h := h <;> simp [closeContext, hp, h]

theorem closeContext_of_counted {r : Nat} (hp : s.proto = .stream (some r)) :
    closeContext s = s.markIf (decide (0 < r)) .countMismatch := by
  simp only [closeContext, hp]

/-- Settles O17: one case for each context. -/
theorem commandByteClosesTheContext : Obligations.CommandByteClosesTheContext := by
  intro s hd
  refine ⟨fun acc hp hlen => ?_, fun acc hp hlen => ?_, fun r hp hr => ?_, ?_⟩
  · rw [closeContext_of_short hp (isWindowCmd_iff.2 (.inl rfl)) hlen]
    exact forgetRange_caset (s.mark _)
  · rw [closeContext_of_short hp (isWindowCmd_iff.2 (.inr rfl)) hlen]
    exact forgetRange_paset (s := s.mark _) hd
  · rw [closeContext_of_counted hp, decide_eq_true hr]; rfl
  · rintro (hp | hp | hp | ⟨op, acc, hp, h⟩)
    · simp only [closeContext, hp]
    · simp only [closeContext, hp]
    · rw [closeContext_of_counted hp]; rfl
    · exact closeContext_of_param hp (h.imp_right isWindowCmd_eq_false_iff.2)

/-! ### Opening a context (R109, R110) -/

theorem openContext_ramwr (s : State) : openContext s.cfg.opRamwr s = openStream s := if_pos rfl

theorem openContext_swreset (hd : s.cfg.distinctOps = true) :
    openContext s.cfg.opSwreset s = { forgetWindow s with proto := .param s.cfg.opSwreset [] } := by
  rw [openContext, if_neg (opSwreset_ne_opRamwr hd), if_pos rfl]

theorem openContext_of_ne (hr : op ≠ s.cfg.opSwreset) (hw : op ≠ s.cfg.opRamwr) :
    openContext op s = { s with proto := .param op [] } := by
  rw [openContext, if_neg hw, if_neg hr]

/-- A known window of a known panel is counted where it is not empty and lies inside (R110). -/
theorem openCount_of_known {sc ec sp ep w h : Half} (hsc : s.winSc = some sc) (hec : s.winEc = some ec)
    (hsp : s.winSp = some sp) (hep : s.winEp = some ep) (hw : s.width = some w) (hh : s.height = some h) :
    openCount s =
      if sc.toNat ≤ ec.toNat ∧ ec.toNat < w.toNat ∧ sp.toNat ≤ ep.toNat ∧ ep.toNat < h.toNat then
        some (2 * (ec.toNat - sc.toNat + 1) * (ep.toNat - sp.toNat + 1))
      else none := by
  simp only [openCount, hsc, hec, hsp, hep, hw, hh]

/-- No other window is counted (R110). -/
theorem openCount_eq_none (h : ¬ ∃ sc ec sp ep w h, s.winSc = some sc ∧ s.winEc = some ec ∧ s.winSp = some sp ∧
    s.winEp = some ep ∧ s.width = some w ∧ s.height = some h ∧ sc.toNat ≤ ec.toNat ∧ ec.toNat < w.toNat ∧
    sp.toNat ≤ ep.toNat ∧ ep.toNat < h.toNat) : openCount s = none := by
  unfold openCount
  split
  · rename_i hsc hec hsp hep hw hh
    exact if_neg fun hfit => h ⟨_, _, _, _, _, _, hsc, hec, hsp, hep, hw, hh, hfit⟩
  · rfl

theorem openStream_of_count {n : Nat} (h : openCount s = some n) :
    openStream s = { s with proto := .stream (some n) } := by
  simp [openStream, h, State.markIf]

theorem openStream_of_none (h : openCount s = none) :
    openStream s = { s with proto := .stream none, viol := s.viol.add .windowInvalid } := by
  simp [openStream, h, State.markIf, State.mark]

/-- Settles O18: one case for each kind of command. -/
theorem commandByteOpensItsContext : Obligations.CommandByteOpensItsContext := by
  intro b s hd
  refine ⟨?_, openContext_of_ne, ?_, ?_⟩
  · rintro rfl
    exact openContext_swreset hd
  · rintro sc ec sp ep w h rfl hsc hec hsp hep hw hh hcol hcolEnd hpage hpageEnd
    rw [openContext_ramwr]
    refine openStream_of_count ((openCount_of_known hsc hec hsp hep hw hh).trans (if_pos ?_))
    exact ⟨hcol, hcolEnd, hpage, hpageEnd⟩
  · rintro rfl hinvalid
    rw [openContext_ramwr]
    exact openStream_of_none (openCount_eq_none hinvalid)

/-! ### A data byte (R111 to R114) -/

theorem trackData_of_unknown (b : Byte) (hp : s.proto = .unknown) : trackData b s = s.mark .protocolUnknown := by
  simp only [trackData, hp]

/-- The parameters of other commands are not looked at (R113). -/
theorem trackData_of_other (b : Byte) (hp : s.proto = .param op acc) (hop : isWindowCmd s.cfg op = false) :
    trackData b s = s := by
  simp [trackData, hp, hop]

/-- Fewer than four bytes are no range. -/
theorem latchRange_of_length_ne (h : acc.length ≠ 4) : latchRange op acc s = s := by
  unfold latchRange
  split
  · exact absurd rfl h
  · rfl

/-- The first three parameters of a window command are captured (R112). -/
theorem trackData_of_short (b : Byte) (hp : s.proto = .param op acc) (hop : isWindowCmd s.cfg op = true)
    (hlen : acc.length < 3) : trackData b s = { s with proto := .param op (acc ++ [b]) } := by
  have hne : (acc ++ [b]).length ≠ 4 := by rw [List.length_append, List.length_singleton]; omega
  have hcapture : acc.length < 4 := by omega
  simp only [trackData, hp, hop, if_true, captureParam, if_pos hcapture, latchRange_of_length_ne hne]

/-- The fourth latches the range (R112). -/
theorem trackData_of_fourth (b : Byte) {b0 b1 b2 : Byte} (hp : s.proto = .param op [b0, b1, b2])
    (hop : isWindowCmd s.cfg op = true) : trackData b s =
      setRange op (joinBytes b0 b1) (joinBytes b2 b) { s with proto := .param op [b0, b1, b2, b] } := by
  simp [trackData, hp, hop, captureParam, latchRange]

/-- A fifth is one too many (R112). -/
theorem trackData_of_full (b : Byte) (hp : s.proto = .param op acc) (hop : isWindowCmd s.cfg op = true)
    (hlen : 4 ≤ acc.length) : trackData b s = s.mark .paramOverrun := by
  simp [trackData, hp, hop, captureParam, Nat.not_lt.2 hlen]

theorem trackData_of_uncounted (b : Byte) (hp : s.proto = .stream none) : trackData b s = s := by
  simp only [trackData, hp]

theorem trackData_of_filled (b : Byte) (hp : s.proto = .stream (some 0)) : trackData b s = s.mark .countMismatch := by
  simp only [trackData, hp]

theorem trackData_of_owed (b : Byte) {r : Nat} (hp : s.proto = .stream (some (r + 1))) :
    trackData b s = { s with proto := .stream (some r) } := by
  simp only [trackData, hp]

theorem setRange_of_caset (h : op = s.cfg.opCaset) (a b : Half) :
    setRange op a b s = { s with winSc := some a, winEc := some b } := if_pos h

theorem setRange_of_ne_caset (h : op ≠ s.cfg.opCaset) (a b : Half) :
    setRange op a b s = { s with winSp := some a, winEp := some b } := if_neg h

end

/-- Settles O19: one case for each context. -/
theorem dataByteIsTrackedByItsContext : Obligations.DataByteIsTrackedByItsContext := by
  intro b s hd
  refine ⟨trackData_of_unknown b,
    fun op acc hp hcol hpage => trackData_of_other b hp (isWindowCmd_eq_false_iff.2 ⟨hcol, hpage⟩),
    fun op acc hp hop hlen => trackData_of_short b hp (isWindowCmd_iff.2 hop) hlen, fun b0 b1 b2 hp => ?_,
    fun b0 b1 b2 hp => ?_, fun op acc hp hop hlen => trackData_of_full b hp (isWindowCmd_iff.2 hop) hlen,
    trackData_of_uncounted b, trackData_of_filled b, fun r hp => trackData_of_owed b hp⟩
  · rw [trackData_of_fourth b hp (isWindowCmd_iff.2 (.inl rfl)), setRange_of_caset]
    · rfl
    · rfl
  · rw [trackData_of_fourth b hp (isWindowCmd_iff.2 (.inr rfl)), setRange_of_ne_caset]
    · rfl
    · exact opPaset_ne_opCaset hd

end Sys2Proof.Machine
end

section
/-! Rotation (R119 to R122): what set_rotation sends, the geometry it assigns from its mode modulo 4, where it leaves
the tracker, and that no other request but initialize writes the geometry. -/

namespace Sys2Proof.Machine

/-- Settles O50: the frame of the geometry. -/
theorem onlySetRotationAndInitializeWriteTheGeometry : Obligations.OnlySetRotationAndInitializeWriteTheGeometry :=
  fun _ _ _ => exec_geometry

/-! ### A request and the tracker it starts from -/

/-- A request that reads no element ends in the fold of its sequence, whatever was in flight before it. -/
theorem RunsAlone.exec_eq_opsDone {i : Instr} {s : State} (hi : RunsAlone s.cfg i)
    (hacc : Accepts (byteCount (sequenceOf s.cfg i)) s) :
    exec i s = .next (opsDone (sequenceOf s.cfg i) s.idle).idle := by
  rw [← hi.exec_idle]
  exact RunsAlone.exec_accepts (s := s.idle) hi rfl hacc

/-- `DrawingCheck` marks alike (R123). -/
theorem sameTracker_drawingCheck_idle (s : State) : SameTracker (drawingCheck s) (drawingCheck s.idle) :=
  ⟨by simp, by simp, by simp, by simp, by simp [drawingCheck, State.markIf_viol], by simp, by simp, by simp, by simp⟩

/-- A data byte on a configured pin moves the tracker as a byte at High (R88). -/
theorem SameTracker.opDone_data {s t : State} (ht : SameTracker s t) (h : t.dcCfg = true) (b : Byte) :
    SameTracker (trackData b s) (opDone (.data b) t) := by
  rw [Machine.opDone_data, driveDc_of_configured h]
  exact (ht.withDc .high).opDone_raw h nofun b

theorem opDone_data_dc {s : State} (h : s.dcCfg = true) (b : Byte) : (opDone (.data b) s).dc = .high := by
  rw [opDone_data, opDone_raw_dc, driveDc_dc, if_pos h]

/-- A sequence that begins with `DrawingCheck` ends with its mark made (R33, R123). -/
theorem has_beforeInit_opsDone (ops : List Op) {s : State} (h : s.initDone = false) :
    (opsDone (.drawingCheck :: ops) s).viol.has .beforeInit = true := by
  refine (opsDone_sticky ops _).viol _ ?_
  simp [opDone, drawingCheck, State.has_markIf, h]

/-- The marks do not steer what becomes of the context (R41, R108). -/
theorem closeContext_drawingCheck (s : State) :
    ∃ v, closeContext (drawingCheck s) = { closeContext s with viol := v } := by
  have hcheck : Unsteered False s.fault s.refused s.input s (drawingCheck s) :=
    ⟨(drawingCheck s).viol, False.elim, by unfold drawingCheck State.markIf; split <;> rfl⟩
  obtain ⟨v, -, hv⟩ := hcheck.closeContext
  obtain ⟨_, _, _, _, _, _, hs⟩ := closeContext_shape s
  exact ⟨v, by rw [hv, hs]⟩

/-! ### The mode (R120, R121) -/

theorem rotationOf_eq (mode : Byte) : rotationOf mode = BitVec.ofNat 2 (mode.toNat % 4) := by
  apply BitVec.eq_of_toNat_eq
  simp [rotationOf]

theorem runsAlone_setRotation (c : Config) (mode : Byte) : RunsAlone c (.setRotation mode) :=
  ⟨fun _ hs => by rw [← hs]; rfl, by simp [sequenceOf, setRotationSeq, Op.readsElement]⟩

/-- Settles O26: the mode enters the sequence by its residue alone. -/
theorem rotationModeWrapsModuloFour : Obligations.RotationModeWrapsModuloFour := by
  intro m n s hacc hmod
  have hseq : setRotationSeq s.cfg m = setRotationSeq s.cfg n := by
    simp only [setRotationSeq, rotationOf_eq, hmod]
  calc exec (.setRotation m) s
    _ = .next (opsDone (setRotationSeq s.cfg m) s.idle).idle := (runsAlone_setRotation s.cfg m).exec_eq_opsDone hacc
    _ = .next (opsDone (setRotationSeq s.cfg n) s.idle).idle := by rw [hseq]
    _ = exec (.setRotation n) s := ((runsAlone_setRotation s.cfg n).exec_eq_opsDone hacc).symm

theorem rotation_portrait {mode : Byte} (h : mode.toNat % 4 = 0 ∨ mode.toNat % 4 = 2) :
    rotationWidth (rotationOf mode) = 240 ∧ rotationHeight (rotationOf mode) = 320 := by
  rw [rotationOf_eq]
  obtain h | h := h <;> rw [h] <;> decide

theorem rotation_landscape {mode : Byte} (h : mode.toNat % 4 = 1 ∨ mode.toNat % 4 = 3) :
    rotationWidth (rotationOf mode) = 320 ∧ rotationHeight (rotationOf mode) = 240 := by
  rw [rotationOf_eq]
  obtain h | h := h <;> rw [h] <;> decide

/-- `MADCTL_ROT[mode mod 4]`, residue by residue. -/
theorem madctlByte_rotationOf {c : Config} {mode b : Byte}
    (h : mode.toNat % 4 = 0 ∧ b = c.madctlRot0 ∨ mode.toNat % 4 = 1 ∧ b = c.madctlRot1 ∨
      mode.toNat % 4 = 2 ∧ b = c.madctlRot2 ∨ mode.toNat % 4 = 3 ∧ b = c.madctlRot3) :
    madctlByte c (rotationOf mode) = b := by
  rw [rotationOf_eq]
  obtain ⟨h, rfl⟩ | ⟨h, rfl⟩ | ⟨h, rfl⟩ | ⟨h, rfl⟩ := h <;> rw [h] <;> rfl

/-! ### set_rotation (R119) -/

/-- The state after the bytes of set_rotation, before the registers are written. -/
def afterMadctl (mode : Byte) (s : State) : State :=
  opsDone [.drawingCheck, .command s.cfg.opMadctl, .data (madctlByte s.cfg (rotationOf mode))] s.idle

section
variable {mode : Byte} {s : State}

theorem exec_setRotation (hacc : Accepts 2 s) :
    exec (.setRotation mode) s = .next (setGeometry (rotationOf mode) (afterMadctl mode s)).idle :=
  (runsAlone_setRotation s.cfg mode).exec_eq_opsDone hacc

theorem afterMadctl_trace (mode : Byte) (s : State) : (afterMadctl mode s).trace =
    s.trace ++ [cmdEvent s s.cfg.opMadctl, dataEvent s (madctlByte s.cfg (rotationOf mode))] :=
  have hsends := (sends_drawingCheck s).cons ((sends_command _ s).cons (sends_data _ s))
  (hsends s.idle ⟨rfl, rfl, rfl, rfl⟩).2.1

theorem plainOp_madctl {c : Config} (h : c.distinctOps = true) : PlainOp c c.opMadctl := by
  have hnodup := of_decide_eq_true h
  constructor <;> rintro he <;> simp [Config.ops, he] at hnodup

/-- The tracker closes the context it finds and holds the memory-access-control command (R108, R109, R113). -/
theorem afterMadctl_tracker (mode : Byte) (hc : s.dcCfg = true) (hd : s.cfg.distinctOps = true) :
    SameTracker { closeContext (drawingCheck s) with proto := .param s.cfg.opMadctl [] } (afterMadctl mode s) := by
  have hplain := plainOp_madctl hd
  have hcfg : (closeContext (drawingCheck s)).cfg = s.cfg := by rw [closeContext_cfg, drawingCheck_cfg]
  have hcommand : track .low s.cfg.opMadctl (drawingCheck s) =
      { closeContext (drawingCheck s) with proto := .param s.cfg.opMadctl [] } := by
    rw [track, openContext_of_ne] <;> rw [hcfg]
    · exact hplain.swreset
    · exact hplain.ramwr
  have hchecked : (drawingCheck s.idle).dcCfg = true := by simpa using hc
  have hlow := (sameTracker_drawingCheck_idle s).opDone_command hchecked s.cfg.opMadctl
  have hhigh := hlow.opDone_data ((opDone_dcCfg rfl _).trans hchecked) (madctlByte s.cfg (rotationOf mode))
  rw [hcommand, trackData_of_other _ rfl] at hhigh
  · exact hhigh
  · rw [hcfg]
    exact hplain.isWindowCmd

theorem afterMadctl_dc (mode : Byte) (hc : s.dcCfg = true) : (afterMadctl mode s).dc = .high := by
  refine opDone_data_dc ?_ _
  rw [opDone_dcCfg rfl]
  simpa [opDone] using hc

/-- The panel is told the byte of the rotation (R76). -/
theorem panelOrientation_afterMadctl (mode : Byte) (hc : s.dcCfg = true) :
    panelOrientation s.cfg (afterMadctl mode s).trace = some (madctlByte s.cfg (rotationOf mode)) := by
  rw [afterMadctl_trace, cmdEvent, dataEvent, drivenLevel, drivenLevel, if_pos hc, if_pos hc]
  exact panelOrientation_madctl s.cfg s.trace _

end

/-- Settles O25: two bytes are sent, and the registers are those of the mode. -/
theorem setRotationSendsOneCommandAndAssignsTheGeometry :
    Obligations.SetRotationSendsOneCommandAndAssignsTheGeometry := by
  intro mode s hacc
  refine ⟨_, exec_setRotation hacc, rfl, congrArg some (rotationOf_eq mode), fun h => ?_, fun h => ?_,
    fun b hb => ?_, has_beforeInit_opsDone (s := s.idle) _, fun hc hd => ?_⟩
  · obtain ⟨hw, hh⟩ := rotation_portrait h
    exact ⟨congrArg some hw, congrArg some hh⟩
  · obtain ⟨hw, hh⟩ := rotation_landscape h
    exact ⟨congrArg some hw, congrArg some hh⟩
  · obtain rfl := madctlByte_rotationOf hb
    exact ⟨afterMadctl_trace mode s, panelOrientation_afterMadctl mode⟩
  · have ht := afterMadctl_tracker mode hc hd
    obtain ⟨v, hv⟩ := closeContext_drawingCheck s
    have hviol : (afterMadctl mode s).viol = (closeContext (drawingCheck s)).viol := ht.viol
    rw [hv] at ht
    exact ⟨afterMadctl_dc mode hc, ht.proto, hviol, ht.winSc, ht.winEc, ht.winSp, ht.winEp⟩

end Sys2Proof.Machine
end

section
/-! The address window (R115 to R118, R124): what set_addr_window sends and where it leaves the tracker, which windows
it counts, and that exactly the pixels of a window fill the stream it opens. -/

namespace Sys2Proof.Machine

/-! ### A range (R75, R112) -/

theorem joinBytes_hiByte_loByte (v : Half) : joinBytes (hiByte v) (loByte v) = v :=
  (BitVec.extractLsb'_append_extractLsb'_eq_extractLsb' (start₁ := 0) (len₁ := 8) rfl).trans BitVec.extractLsb'_eq_self

/-- The bytes of a range: start and end, each high byte first. -/
def rangeBytes (a b : Half) : List Byte := [hiByte a, loByte a, hiByte b, loByte b]

section
variable {s t : State}

/-- Data bytes on a configured pin move the tracker one after the other. -/
theorem SameTracker.opsDone_data (ht : SameTracker s t) (h : t.dcCfg = true) (bs : List Byte) :
    SameTracker (bs.foldl (fun u b => trackData b u) s) (opsDone (bs.map .data) t) := by
  induction bs generalizing s t with
  | nil => exact ht
  | cons b rest ih => exact ih (ht.opDone_data h b) ((opDone_dcCfg rfl t).trans h)

/-- The four bytes of a range are captured and latched (R112). -/
theorem foldl_trackData_rangeBytes {op : Byte} (hop : isWindowCmd s.cfg op = true) (a b : Half) :
    (rangeBytes a b).foldl (fun u b => trackData b u) { s with proto := .param op [] } =
      setRange op a b { s with proto := .param op (rangeBytes a b) } := by
  have hshort (acc : List Byte) (d : Byte) (hlen : acc.length < 3) :
      trackData d { s with proto := .param op acc } = { s with proto := .param op (acc ++ [d]) } :=
    trackData_of_short d rfl hop hlen
  have hfourth :=
    trackData_of_fourth (s := { s with proto := .param op [hiByte a, loByte a, hiByte b] }) (loByte b) rfl hop
  rw [joinBytes_hiByte_loByte, joinBytes_hiByte_loByte] at hfourth
  calc (rangeBytes a b).foldl (fun u b => trackData b u) { s with proto := .param op [] }
    _ = trackData (loByte b) (trackData (hiByte b) (trackData (loByte a) (trackData (hiByte a)
          { s with proto := .param op [] }))) := rfl
    _ = trackData (loByte b) { s with proto := .param op [hiByte a, loByte a, hiByte b] } := by
      rw [hshort [] _ (by decide), hshort _ _ (by simp), hshort _ _ (by simp)]; rfl
    _ = _ := hfourth

theorem rangeOps_eq (op : Byte) (a b : Half) : rangeOps op a b = .command op :: (rangeBytes a b).map .data := rfl

/-- A window command with its range closes the context it finds and leaves the range latched. -/
theorem SameTracker.opsDone_rangeOps {op : Byte} (ht : SameTracker s t) (h : t.dcCfg = true)
    (hop : isWindowCmd s.cfg op = true) (hr : op ≠ s.cfg.opSwreset) (hw : op ≠ s.cfg.opRamwr) (a b : Half) :
    SameTracker (setRange op a b { closeContext s with proto := .param op (rangeBytes a b) })
      (opsDone (rangeOps op a b) t) := by
  rw [← closeContext_cfg s] at hop hr hw
  have hlow := ht.opDone_command h op
  rw [track, openContext_of_ne hr hw] at hlow
  have hdata := hlow.opsDone_data ((opDone_dcCfg rfl t).trans h) (rangeBytes a b)
  rw [foldl_trackData_rangeBytes hop] at hdata
  rwa [rangeOps_eq, opsDone_cons]

end

/-! ### The window bytes (R116) -/

/-- The state as the tracker holds it once the column and the page range of a window are latched. -/
def windowSet (x y w h : Half) (s : State) : State :=
  { closeContext s with
    proto := .param s.cfg.opPaset (rangeBytes y (endOf y h))
    winSc := some x, winEc := some (endOf x w), winSp := some y, winEp := some (endOf y h) }

/-- The window commands are neither the software reset nor a memory-write. -/
theorem windowCmds_ne {c : Config} (h : c.distinctOps = true) : (c.opCaset ≠ c.opSwreset ∧ c.opCaset ≠ c.opRamwr) ∧
    c.opPaset ≠ c.opSwreset ∧ c.opPaset ≠ c.opRamwr := by
  have hnodup := of_decide_eq_true h
  refine ⟨⟨?_, ?_⟩, ?_, ?_⟩ <;> rintro he <;> simp [Config.ops, he] at hnodup

section
variable {s t : State} {x y w h : Half}

/-- The window bytes close the context they find, latch both ranges and open a stream (R108, R109, R112). -/
theorem SameTracker.opsDone_windowOps (ht : SameTracker s t) (hc : t.dcCfg = true) (hd : s.cfg.distinctOps = true) :
    SameTracker (openStream (windowSet x y w h s)) (opsDone (windowOps s.cfg x y w h) t) := by
  obtain ⟨⟨hcr, hcw⟩, hpr, hpw⟩ := windowCmds_ne hd
  have hcfg := closeContext_cfg s
  have hevents (ops : List Op) (hops : .configureDc ∉ ops) : (opsDone ops t).dcCfg = true :=
    ((opsDone_sameRegisters ops t).dcCfg hops).trans hc
  have hcolumns := ht.opsDone_rangeOps hc (isWindowCmd_iff.2 (.inl rfl)) hcr hcw x (endOf x w)
  rw [setRange_of_caset (by rw [hcfg])] at hcolumns
  have hpages := hcolumns.opsDone_rangeOps (op := s.cfg.opPaset) (hevents _ (by simp [rangeOps]))
    (isWindowCmd_iff.2 (.inr (by rw [hcfg]))) (by rwa [hcfg]) (by rwa [hcfg]) y (endOf y h)
  rw [closeContext_of_param rfl (.inl le_rfl),
    setRange_of_ne_caset (by rw [hcfg]; exact opPaset_ne_opCaset hd)] at hpages
  have hstream := SameTracker.opDone_command (s := windowSet x y w h s) hpages
    (by rw [← opsDone_append]; exact hevents _ (by simp [rangeOps])) s.cfg.opRamwr
  rw [track, closeContext_of_param rfl (.inl le_rfl),
    show s.cfg.opRamwr = (windowSet x y w h s).cfg.opRamwr by rw [windowSet, hcfg], openContext_ramwr] at hstream
  simpa only [windowOps, windowEnd_eq_endOf, opsDone_append, opsDone_cons, opsDone_nil, windowSet, hcfg] using hstream

/-! ### The windows that are counted (R110, R115) -/

theorem endOf_toNat (x w : Half) : (endOf x w).toNat = (x.toNat + w.toNat + 65535) % 65536 := by
  simp [endOf]

/-- A range does not wrap and ends inside exactly where its extent is not zero and fits. -/
theorem range_inside_iff (x w p : Half) : x.toNat ≤ (endOf x w).toNat ∧ (endOf x w).toNat < p.toNat ↔
    1 ≤ w.toNat ∧ x.toNat + w.toNat ≤ p.toNat := by
  have hx := x.isLt
  have hw := w.isLt
  have hp := p.isLt
  rw [endOf_toNat]
  omega

theorem range_extent {x w p : Half} (hw : 1 ≤ w.toNat) (hfit : x.toNat + w.toNat ≤ p.toNat) :
    (endOf x w).toNat - x.toNat + 1 = w.toNat := by
  have hp := p.isLt
  rw [endOf_toNat]
  omega

/-- A window fits where both its ranges are inside. -/
theorem windowFits_iff (x y w h pw ph : Half) : WindowFits x y w h pw ph ↔ x.toNat ≤ (endOf x w).toNat ∧
    (endOf x w).toNat < pw.toNat ∧ y.toNat ≤ (endOf y h).toNat ∧ (endOf y h).toNat < ph.toNat :=
  calc WindowFits x y w h pw ph
    _ ↔ (1 ≤ w.toNat ∧ x.toNat + w.toNat ≤ pw.toNat) ∧ (1 ≤ h.toNat ∧ y.toNat + h.toNat ≤ ph.toNat) :=
      and_assoc.symm.trans and_and_and_comm
    _ ↔ (x.toNat ≤ (endOf x w).toNat ∧ (endOf x w).toNat < pw.toNat) ∧
        (y.toNat ≤ (endOf y h).toNat ∧ (endOf y h).toNat < ph.toNat) := by
      rw [range_inside_iff, range_inside_iff]
    _ ↔ _ := and_assoc

theorem closeContext_width (s : State) : (closeContext s).width = s.width := by
  obtain ⟨_, _, _, _, _, _, h⟩ := closeContext_shape s; rw [h]

theorem closeContext_height (s : State) : (closeContext s).height = s.height := by
  obtain ⟨_, _, _, _, _, _, h⟩ := closeContext_shape s; rw [h]

section
variable {pw ph : Half} (hw : s.width = some pw) (hh : s.height = some ph)
include hw hh

/-- The count of a latched window (R110). -/
theorem openCount_windowSet : openCount (windowSet x y w h s) =
    if x.toNat ≤ (endOf x w).toNat ∧ (endOf x w).toNat < pw.toNat ∧ y.toNat ≤ (endOf y h).toNat ∧
        (endOf y h).toNat < ph.toNat then
      some (2 * ((endOf x w).toNat - x.toNat + 1) * ((endOf y h).toNat - y.toNat + 1))
    else none :=
  openCount_of_known (s := windowSet x y w h s) rfl rfl rfl rfl ((closeContext_width s).trans hw)
    ((closeContext_height s).trans hh)

theorem openCount_windowSet_of_fits (hfits : WindowFits x y w h pw ph) :
    openCount (windowSet x y w h s) = some (2 * w.toNat * h.toNat) := by
  have hinside := (windowFits_iff x y w h pw ph).1 hfits
  obtain ⟨hw1, hh1, hcol, hpage⟩ := hfits
  rw [openCount_windowSet hw hh, if_pos hinside, range_extent hw1 hcol, range_extent hh1 hpage]

theorem openCount_windowSet_of_not_fits (hfits : ¬ WindowFits x y w h pw ph) :
    openCount (windowSet x y w h s) = none := by
  rw [openCount_windowSet hw hh, if_neg (mt (windowFits_iff x y w h pw ph).2 hfits)]

end

end

/-! ### set_addr_window (R117) -/

/-- The state after the bytes of set_addr_window. -/
def afterWindow (x y w h : Half) (s : State) : State := opsDone (setAddrWindowSeq s.cfg x y w h) s.idle

section
variable {s : State} {x y w h : Half}

theorem exec_setAddrWindow (hacc : Accepts 11 s) :
    exec (.setAddrWindow x y w h) s = .next (afterWindow x y w h s).idle :=
  (runsAlone_setAddrWindow s.cfg x y w h).exec_eq_opsDone hacc

/-- The eleven bytes are sent (R116). -/
theorem sends_setAddrWindowSeq (x y w h : Half) (s : State) :
    Sends (setAddrWindowSeq s.cfg x y w h) (windowEvents s x y w h) s :=
  (sends_drawingCheck s).cons (sends_windowOps x y w h s)

theorem afterWindow_trace (x y w h : Half) (s : State) :
    (afterWindow x y w h s).trace = s.trace ++ windowEvents s x y w h :=
  (sends_setAddrWindowSeq x y w h s s.idle ⟨rfl, rfl, rfl, rfl⟩).2.1

theorem afterWindow_panel (x y w h : Half) (s : State) :
    (afterWindow x y w h s).initDone = s.initDone ∧ (afterWindow x y w h s).dcCfg = s.dcCfg := by
  have hregisters := opsDone_sameRegisters (setAddrWindowSeq s.cfg x y w h) s.idle
  exact ⟨hregisters.initDone (by simp [setAddrWindowSeq, windowOps, rangeOps]),
    hregisters.dcCfg (by simp [setAddrWindowSeq, windowOps, rangeOps])⟩

/-- The memory-write command leaves the level Undef (R87, R116). -/
theorem afterWindow_dc (hc : s.dcCfg = true) : (afterWindow x y w h s).dc = .undef := by
  have hseq : setAddrWindowSeq s.cfg x y w h = (.drawingCheck :: (rangeOps s.cfg.opCaset x (windowEnd x w) ++
      rangeOps s.cfg.opPaset y (windowEnd y h))) ++ [.command s.cfg.opRamwr] := by
    simp [setAddrWindowSeq, windowOps]
  rw [afterWindow, hseq, opsDone_append]
  exact opDone_command_dc (((opsDone_sameRegisters _ s.idle).dcCfg (by simp [rangeOps])).trans hc) _

theorem has_beforeInit_afterWindow (hi : s.initDone = false) : (afterWindow x y w h s).viol.has .beforeInit = true :=
  has_beforeInit_opsDone (s := s.idle) _ hi

/-- The tracker sees the window bytes in the context the request found (R117). -/
theorem afterWindow_tracker (hc : s.dcCfg = true) (hd : s.cfg.distinctOps = true) :
    SameTracker (openStream (windowSet x y w h (drawingCheck s))) (afterWindow x y w h s) := by
  have hwindow := (sameTracker_drawingCheck_idle s).opsDone_windowOps (x := x) (y := y) (w := w) (h := h)
    (by simpa using hc) (by simpa using hd)
  rw [drawingCheck_cfg] at hwindow
  rw [afterWindow, setAddrWindowSeq, opsDone_cons]
  exact hwindow

/-- Settles O27: the window bytes are sent, the last of them a command. -/
theorem setAddrWindowEmitsItsElevenBytes : Obligations.SetAddrWindowEmitsItsElevenBytes := by
  intro x y w h s hacc
  have hexec := exec_setAddrWindow (x := x) (y := y) (w := w) (h := h) hacc
  have htrace := afterWindow_trace x y w h s
  have hdc := afterWindow_dc (s := s) (x := x) (y := y) (w := w) (h := h)
  have hinit := has_beforeInit_afterWindow (s := s) (x := x) (y := y) (w := w) (h := h)
  generalize afterWindow x y w h s = t at hexec htrace hdc hinit
  exact ⟨t.idle, hexec, rfl, htrace, hdc, hinit⟩

/-- Closing a context and `DrawingCheck` have no say in WindowInvalid (R108, R123). -/
theorem has_windowInvalid_windowSet (x y w h : Half) (s : State) :
    (windowSet x y w h (drawingCheck s)).viol.has .windowInvalid = s.viol.has .windowInvalid := by
  have hcheck : (drawingCheck s).viol.has .windowInvalid = s.viol.has .windowInvalid := by
    simp [drawingCheck, State.has_markIf]
  rw [← hcheck, Bool.eq_iff_iff]
  exact ⟨fun hv => by simpa using has_closeContext hv, closeContext_keeps⟩

/-- Settles O28: the count is that of the window latched. -/
theorem setAddrWindowCountsExactlyTheWindowsThatFit : Obligations.SetAddrWindowCountsExactlyTheWindowsThatFit := by
  intro x y w h s pw ph hacc hc hd hw hh
  have hexec := exec_setAddrWindow (x := x) (y := y) (w := w) (h := h) hacc
  have ht := afterWindow_tracker (x := x) (y := y) (w := w) (h := h) hc hd
  have hvalid := has_windowInvalid_windowSet x y w h s
  have hw : (drawingCheck s).width = some pw := by rwa [drawingCheck_width]
  have hh : (drawingCheck s).height = some ph := by rwa [drawingCheck_height]
  generalize afterWindow x y w h s = t at hexec ht
  refine ⟨t.idle, hexec, ?_⟩
  by_cases hfits : WindowFits x y w h pw ph
  · rw [openStream_of_count (openCount_windowSet_of_fits hw hh hfits)] at ht
    refine ⟨ht.winSc, ht.winEc, ht.winSp, ht.winEp, fun _ => ⟨ht.proto, ?_⟩, fun hn => absurd hfits hn⟩
    rw [State.idle_viol, ht.viol, hvalid]
  · rw [openStream_of_none (openCount_windowSet_of_not_fits hw hh hfits)] at ht
    refine ⟨ht.winSc, ht.winEc, ht.winSp, ht.winEp, fun hf => absurd hf hfits, fun _ => ⟨ht.proto, ?_⟩⟩
    rw [State.idle_viol, ht.viol, Marks.has_add]
    rfl

end

/-! ### The pixels of a window (R114, R124, R127) -/

theorem runsAlone_writePixel (c : Config) (color : Half) : RunsAlone c (.writePixel color) :=
  ⟨fun _ _ => rfl, by simp [sequenceOf, writePixelSeq, colorOps, pixelOps, Op.readsElement]⟩

theorem writePixelSeq_eq (color : Half) : writePixelSeq color =
    [.drawingCheck, .streamCheck 1, .data (hiByte color), .data (loByte color)] := rfl

theorem sends_writePixelSeq (color : Half) (s : State) : Sends (writePixelSeq color) (halfEvents s color) s :=
  (sends_drawingCheck s).cons ((sends_streamCheck 1 s).cons (sends_pixelOps color s))

/-- The sequences of write_pixel for each of the colours. -/
def writePixelsOps (cs : List Half) : List Op := cs.flatMap writePixelSeq

theorem byteCount_writePixelsOps (cs : List Half) : byteCount (writePixelsOps cs) = 2 * cs.length := by
  induction cs with
  | nil => rfl
  | cons color rest ih =>
    rw [writePixelsOps, List.flatMap_cons, byteCount_append, ← writePixelsOps, ih, List.length_cons,
      show byteCount (writePixelSeq color) = 2 from rfl]
    omega

/-- The sequences of the requests are the operations of the pixels. -/
theorem flatMap_sequenceOf_writePixel (c : Config) (cs : List Half) :
    (cs.map .writePixel).flatMap (sequenceOf c) = writePixelsOps cs := by
  rw [List.flatMap_map]; rfl

/-- Pixels end with the level High, if there is one (R88). -/
theorem opsDone_writePixelsOps_dc {cs : List Half} (hcs : cs ≠ []) {s : State} (hc : s.dcCfg = true) :
    (opsDone (writePixelsOps cs) s).dc = .high := by
  obtain ⟨init, color, rfl⟩ := (List.eq_nil_or_concat' cs).resolve_left hcs
  have hseq : writePixelsOps (init ++ [color]) = writePixelsOps init ++
      [Op.drawingCheck, Op.streamCheck 1, Op.data (hiByte color)] ++ [Op.data (loByte color)] := by
    simp [writePixelsOps, writePixelSeq_eq]
  rw [hseq, opsDone_append]
  refine opDone_data_dc (((opsDone_sameRegisters _ s).dcCfg ?_).trans hc) _
  simp [writePixelsOps, writePixelSeq_eq]

/-- The pin is configured, the open stream is owed `r` bytes, the marks are `v`, and BeforeInit is among them if it is
due: the checks of a pixel add nothing. -/
structure Owes (v : Marks) (r : Nat) (s : State) : Prop where
  dcCfg : s.dcCfg = true
  proto : s.proto = .stream (some r)
  viol : s.viol = v
  checked : CheckMade .drawingCheck s

section
variable {v : Marks} {r : Nat} {s : State}

/-- A data byte is counted and marks nothing (R114). -/
theorem Owes.data (h : Owes v (r + 1) s) (b : Byte) : Owes v r (opDone (.data b) s) := by
  have ht := (SameTracker.refl s).opDone_data h.dcCfg b
  have hpanel := opDone_panel (o := .data b) rfl s
  have hsticky := opDone_sticky (.data b) s
  rw [trackData_of_owed b h.proto] at ht
  refine ⟨hpanel.dcCfg.trans h.dcCfg, ht.proto, ht.viol.trans h.viol, fun hf => hsticky.viol _ (h.checked ?_)⟩
  rwa [checkFails, hpanel.initDone] at hf

theorem Owes.drawingCheck (h : Owes v r s) : opDone .drawingCheck s = s := by
  rw [opDone_check rfl, State.markIf_eq_self h.checked]

theorem Owes.streamCheck (h : Owes v r s) (n : Nat) : opDone (.streamCheck n) s = s := by
  simp [opDone, Machine.streamCheck, h.proto, ProtoState.isStream, State.markIf]

/-- A pixel is two bytes (R127). -/
theorem Owes.writePixel (h : Owes v (r + 2) s) (color : Half) : Owes v r (opsDone (writePixelSeq color) s) := by
  rw [writePixelSeq_eq, opsDone_cons, h.drawingCheck, opsDone_cons, h.streamCheck]
  exact (h.data _).data _

/-- As many pixels as the stream is owed fill it. -/
theorem Owes.writePixels {cs : List Half} (h : Owes v (2 * cs.length) s) :
    Owes v 0 (opsDone (writePixelsOps cs) s) := by
  induction cs generalizing s with
  | nil => exact h
  | cons color rest ih =>
    rw [writePixelsOps, List.flatMap_cons, opsDone_append]
    exact ih (Owes.writePixel h color)

end

section
variable {s : State} {x y w h pw ph : Half} (hc : s.dcCfg = true) (hd : s.cfg.distinctOps = true)
  (hw : s.width = some pw) (hh : s.height = some ph) (hfits : WindowFits x y w h pw ph)
include hc hd hw hh hfits

/-- A window that fits opens a stream that is owed its bytes (R110, R115). -/
theorem owes_afterWindow :
    Owes (closeContext (drawingCheck s)).viol (2 * (w.toNat * h.toNat)) (afterWindow x y w h s) := by
  obtain ⟨hinit, hdc⟩ := afterWindow_panel x y w h s
  have ht := afterWindow_tracker (x := x) (y := y) (w := w) (h := h) hc hd
  have hw : (drawingCheck s).width = some pw := by rwa [drawingCheck_width]
  have hh : (drawingCheck s).height = some ph := by rwa [drawingCheck_height]
  rw [openStream_of_count (openCount_windowSet_of_fits hw hh hfits)] at ht
  refine ⟨hdc.trans hc, by rw [ht.proto, Nat.mul_assoc], ht.viol, fun hf => has_beforeInit_afterWindow ?_⟩
  rw [checkFails, hinit] at hf
  simpa using hf

end

/-- What the context set_addr_window finds can add to the marks (R108, R123). -/
theorem has_closeContext_drawingCheck {s : State} {v : Violation}
    (h : (closeContext (drawingCheck s)).viol.has v = true) :
    s.viol.has v = true ∨ v = .countMismatch ∨ v = .paramIncomplete ∨ v = .beforeInit ∧ s.initDone = false := by
  obtain h | h | h := has_closeContext h
  · simp only [drawingCheck, State.has_markIf, Bool.or_eq_true, Bool.and_eq_true, Bool.not_eq_true',
      decide_eq_true_eq] at h
    obtain ⟨hi, rfl⟩ | h := h
    · exact .inr (.inr (.inr ⟨rfl, hi⟩))
    · exact .inl h
  · exact .inr (.inl h)
  · exact .inr (.inr (.inl h))

/-- A window and pixels run as one sequence (R59). -/
theorem execAll_writePixels {s : State} {x y w h : Half} {cs : List Half} (hacc : Accepts (11 + 2 * cs.length) s) :
    execAll (cs.map .writePixel) (afterWindow x y w h s).idle =
      .next (opsDone (writePixelsOps cs) (afterWindow x y w h s)).idle := by
  have halone : ∀ i ∈ cs.map .writePixel, RunsAlone (afterWindow x y w h s).cfg i := by
    simp [runsAlone_writePixel]
  have helem : (afterWindow x y w h s).elem = none :=
    opsDone_elem (runsAlone_setAddrWindow s.cfg x y w h).readsElement s.idle
  have hrest : Accepts (2 * cs.length) (afterWindow x y w h s) :=
    accepts_opsDone (ops := setAddrWindowSeq s.cfg x y w h) (s := s.idle) hacc
  rw [execAll_idle halone helem] <;> rw [flatMap_sequenceOf_writePixel]
  rwa [byteCount_writePixelsOps]

/-- The pixel bytes follow the window bytes (R116, R127). -/
theorem afterPixels_trace (x y w h : Half) (cs : List Half) (s : State) :
    (opsDone (writePixelsOps cs) (afterWindow x y w h s)).trace =
      s.trace ++ windowEvents s x y w h ++ cs.flatMap (halfEvents s) := by
  have hpixels : Sends (writePixelsOps cs) (cs.flatMap (halfEvents s)) s :=
    .flatMap fun color _ => sends_writePixelSeq color s
  obtain ⟨-, htrace, hlike⟩ := sends_setAddrWindowSeq x y w h s s.idle ⟨rfl, rfl, rfl, rfl⟩
  obtain ⟨-, htrace', -⟩ := hpixels _ hlike
  rw [afterWindow, htrace', htrace]
  rfl

/-- Settles O29: the stream of a window that fits is owed exactly its pixels, and each of them is counted. -/
theorem windowThenExactlyItsPixelsFillsTheStream : Obligations.WindowThenExactlyItsPixelsFillsTheStream := by
  intro x y w h s pw ph cs hlen hacc hc hd hw hh hfits
  have howes := owes_afterWindow hc hd hw hh hfits
  have hne : cs ≠ [] := by
    obtain ⟨hw1, hh1, -⟩ := hfits
    exact List.ne_nil_of_length_pos (hlen ▸ Nat.mul_pos hw1 hh1)
  have hfilled := Owes.writePixels (cs := cs) (hlen ▸ howes)
  have hdc := opsDone_writePixelsOps_dc hne howes.dcCfg
  have htrace := afterPixels_trace x y w h cs s
  have hwindow := exec_setAddrWindow (s := s) (x := x) (y := y) (w := w) (h := h) fun m hm =>
    (Nat.le_add_right _ _).trans (hacc m hm)
  have hpixels := execAll_writePixels (x := x) (y := y) (w := w) (h := h) hacc
  generalize afterWindow x y w h s = t at howes hfilled hdc htrace hwindow hpixels
  generalize opsDone (writePixelsOps cs) t = u at hfilled hdc htrace hpixels
  refine ⟨t.idle, u.idle, hwindow, hpixels, fun v hv => has_closeContext_drawingCheck ?_, hfilled.proto,
    hfilled.viol.trans howes.viol.symm, hdc, htrace⟩
  rwa [← howes.viol]

end Sys2Proof.Machine
end

section
/-! Pixels into the open stream (R125 to R129, R136): what write_pixel does to the tracker and the marks, and that the
checks of every pixel but the first find nothing to mark, so many pixels need one check. -/

namespace Sys2Proof.Machine

/-! ### The marks of a pixel (R33, R127) -/

/-- Another mark than those of the checks does not make theirs. -/
theorem has_checkMark_mark (c : Op) {v : Violation} (hv : v ∉ [.streamNotOpen, .beforeInit]) (s : State) :
    (s.mark v).viol.has (checkMark c) = s.viol.has (checkMark c) := by
  have hne : v ≠ checkMark c := by
    rintro rfl
    cases c <;> simp [checkMark] at hv
  simp [hne]

/-- The tracker makes no mark of a check at a data byte (R111 to R114). -/
theorem has_checkMark_trackData (c : Op) (b : Byte) (s : State) :
    (trackData b s).viol.has (checkMark c) = s.viol.has (checkMark c) := by
  unfold trackData captureParam
  split
  · exact has_checkMark_mark c (by decide) s
  · split
    · split
      · rw [latchRange_viol]
      · exact has_checkMark_mark c (by decide) s
    · rfl
  · rfl
  · exact has_checkMark_mark c (by decide) s
  · rfl

/-- A data byte makes no mark of a check, whether or not the pin is configured (R86, R107, R111). -/
theorem has_checkMark_opDone_data (c : Op) (b : Byte) (s : State) :
    (opDone (.data b) s).viol.has (checkMark c) = s.viol.has (checkMark c) := by
  cases hc : s.dcCfg with
  | true => rw [((SameTracker.refl s).opDone_data hc b).viol, has_checkMark_trackData]
  | false =>
    rw [opDone_data, driveDc_of_unconfigured hc, opDone_raw_of_undef (s := s.mark _) (.inl hc),
      ((SameTracker.refl (markLevel _)).sentByte .undef b).viol, markLevel_of_unconfigured (s := s.mark _) hc]
    have hlevel (u : State) : (track .undef b u).viol = u.viol := rfl
    have hunconfigured (u : State) := has_checkMark_mark c (v := .dcUnconfigured) (by decide) u
    rw [hlevel, has_checkMark_mark c (v := .dcIndeterminate) (by decide), hunconfigured, hunconfigured]

/-! ### write_pixel (R127) -/

/-- The state after the two bytes of write_pixel. -/
def afterPixel (color : Half) (s : State) : State := opsDone (writePixelSeq color) s.idle

/-- The state after the two checks of a request that sends pixels (R123, R125). -/
def pixelChecks (n : Nat) (s : State) : State := streamCheck n (drawingCheck s)

section
variable {color : Half} {s : State}

theorem exec_writePixel (hacc : Accepts 2 s) : exec (.writePixel color) s = .next (afterPixel color s).idle :=
  (runsAlone_writePixel s.cfg color).exec_eq_opsDone hacc

theorem afterPixel_eq (color : Half) (s : State) :
    afterPixel color s = opDone (.data (loByte color)) (opDone (.data (hiByte color)) (pixelChecks 1 s.idle)) := rfl

theorem afterPixel_trace (color : Half) (s : State) : (afterPixel color s).trace = s.trace ++ halfEvents s color :=
  (sends_writePixelSeq color s s.idle ⟨rfl, rfl, rfl, rfl⟩).2.1

theorem pixelChecks_panel (n : Nat) (s : State) :
    (pixelChecks n s).dcCfg = s.dcCfg ∧ (pixelChecks n s).proto = s.proto := by
  simp [pixelChecks]

theorem afterPixel_dc (hc : s.dcCfg = true) : (afterPixel color s).dc = .high :=
  opDone_data_dc ((opDone_dcCfg rfl _).trans ((pixelChecks_panel 1 s.idle).1.trans hc)) _

/-- The marks of the two checks are made exactly where they fail (R123, R125). -/
theorem has_checkMark_afterPixel (color : Half) (s : State) :
    (afterPixel color s).viol.has .beforeInit = (s.viol.has .beforeInit || !s.initDone) ∧
      (afterPixel color s).viol.has .streamNotOpen = (s.viol.has .streamNotOpen || !s.proto.isStream) := by
  have hmarks (c : Op) :
      (afterPixel color s).viol.has (checkMark c) = (pixelChecks 1 s.idle).viol.has (checkMark c) := by
    rw [afterPixel_eq, has_checkMark_opDone_data, has_checkMark_opDone_data]
  refine ⟨(hmarks .drawingCheck).trans ?_, (hmarks (.streamCheck 1)).trans ?_⟩ <;>
    simp [checkMark, pixelChecks, streamCheck, drawingCheck, State.has_markIf, Bool.or_comm]

/-- The tracker takes two data bytes, in the context the request found (R106, R127). -/
theorem afterPixel_tracker (hc : s.dcCfg = true) :
    SameTracker (trackData (loByte color) (trackData (hiByte color) (pixelChecks 1 s))) (afterPixel color s) := by
  have hchecks : SameTracker (pixelChecks 1 s) (pixelChecks 1 s.idle) := by
    constructor <;> simp [pixelChecks, streamCheck, drawingCheck, State.markIf_viol]
  have hdc : (pixelChecks 1 s.idle).dcCfg = true := (pixelChecks_panel 1 s.idle).1.trans hc
  exact (hchecks.opDone_data hdc _).opDone_data ((opDone_dcCfg rfl _).trans hdc) _

/-- The marks do not steer what becomes of the two bytes (R41). -/
theorem trackData_pixelChecks (color : Half) (s : State) : ∃ v,
    trackData (loByte color) (trackData (hiByte color) (pixelChecks 1 s)) =
      { trackData (loByte color) (trackData (hiByte color) s) with viol := v } := by
  have hchecks : Unsteered False s.fault s.refused s.input s (pixelChecks 1 s) := by
    refine ⟨(pixelChecks 1 s).viol, False.elim, ?_⟩
    unfold pixelChecks streamCheck drawingCheck State.markIf
    split <;> split <;> rfl
  obtain ⟨v, -, hv⟩ := (hchecks.trackData (hiByte color)).trackData (loByte color)
  refine ⟨v, hv.trans ?_⟩
  obtain ⟨_, _, _, _, _, _, hshape⟩ := (trackData_shape (hiByte color) s).trans (trackData_shape (loByte color) _)
  rw [hshape]

end

/-- Settles O31: the two data bytes follow the two checks, in the context the request found. -/
theorem writePixelSendsTwoDataBytes : Obligations.WritePixelSendsTwoDataBytes := by
  intro color s hacc
  obtain ⟨hinit, hstream⟩ := has_checkMark_afterPixel color s
  have hproto := (pixelChecks_panel 1 s).2
  refine ⟨_, exec_writePixel hacc, rfl, afterPixel_trace color s, afterPixel_dc, hinit, hstream, fun r hc hp => ?_,
    fun hc hp => ?_, fun hc hp => ?_, fun hc => ?_⟩
  all_goals
    have ht := afterPixel_tracker (color := color) hc
  · rw [trackData_of_owed _ (hproto.trans hp), trackData_of_owed (r := r) _ rfl] at ht
    exact ht.proto
  · rw [trackData_of_filled _ (hproto.trans hp), trackData_of_filled (s := State.mark _ _) _ (hproto.trans hp)] at ht
    refine ⟨ht.proto.trans (hproto.trans hp), ?_⟩
    rw [State.idle_viol, ht.viol]
    simp
  · rw [trackData_of_uncounted _ (hproto.trans hp), trackData_of_uncounted _ (hproto.trans hp)] at ht
    exact ht.proto.trans (hproto.trans hp)
  · obtain ⟨v, hv⟩ := trackData_pixelChecks color s
    rw [hv] at ht
    exact ⟨ht.proto, ht.winSc, ht.winEc, ht.winSp, ht.winEp⟩

/-! ### Many pixels (R126, R136) -/

/-- `WriteColorBody` for pixels of any colours: one check, then their bytes (R126). -/
def pixelBody (cs : List Half) : List Op := .streamCheck cs.length :: cs.flatMap pixelOps

theorem colorOps_eq (color : Half) (n : Nat) : colorOps color n = pixelBody (List.replicate n color) := by
  rw [colorOps, pixelBody, List.length_replicate, List.flatMap_def, List.map_replicate]

theorem colorEvents_eq (s : State) (color : Half) (n : Nat) :
    colorEvents s color n = (List.replicate n color).flatMap (halfEvents s) := by
  rw [colorEvents, List.flatMap_def, List.map_replicate]

theorem byteCount_check_cons {c : Op} (h : c.isCheck = true) (ops : List Op) : byteCount (c :: ops) = byteCount ops := by
  cases c with
  | drawingCheck | streamCheck n => rfl
  | _ => cases h

theorem byteCount_pixelBody (cs : List Half) : byteCount (pixelBody cs) = 2 * cs.length := by
  rw [pixelBody, byteCount_check_cons rfl]
  induction cs with
  | nil => rfl
  | cons color rest ih =>
    rw [List.flatMap_cons, byteCount_append, ih, List.length_cons, show byteCount (pixelOps color) = 2 from rfl]
    omega

theorem sends_pixelBody (cs : List Half) (s : State) : Sends (pixelBody cs) (cs.flatMap (halfEvents s)) s :=
  (sends_streamCheck cs.length s).cons (.flatMap fun color _ => sends_pixelOps color s)

/-- What the checks of a pixel look for is marked already, and before dc_init no stream is open: no further pixel is
marked by them. -/
structure PixelsChecked (s : State) : Prop where
  drawing : CheckMade .drawingCheck s
  stream : CheckMade (.streamCheck 1) s
  unconfigured : s.dcCfg = false → s.proto.isStream = false

section
variable {s : State}

theorem opDone_eq_self {c : Op} (hc : c.isCheck = true) (h : CheckMade c s) : opDone c s = s :=
  (opDone_check hc s).trans (State.markIf_eq_self h)

/-- A data byte leaves an open stream open (R114). -/
theorem isStream_opDone_data (b : Byte) (hc : s.dcCfg = true) (h : s.proto.isStream = true) :
    (opDone (.data b) s).proto.isStream = true :=
  (opDone_data_inStream (s := s) b ⟨hc, h, rfl, rfl, rfl, rfl⟩).isStream

/-- A data byte leaves the checks nothing to mark. -/
theorem PixelsChecked.data (h : PixelsChecked s) (b : Byte) : PixelsChecked (opDone (.data b) s) := by
  obtain ⟨hdrawing, hstream, hunconfigured⟩ := h
  have hpanel := opDone_panel (o := .data b) rfl s
  have hsticky := opDone_sticky (.data b) s
  refine ⟨fun hf => hsticky.viol _ (hdrawing ?_), fun hf => hsticky.viol _ (hstream ?_), fun hc => ?_⟩
  · rwa [checkFails, hpanel.initDone] at hf
  · cases hs : s.proto.isStream with
    | false => simp [checkFails, hs]
    | true =>
      have hc : s.dcCfg = true := by
        by_contra hn
        simp [hunconfigured (by simpa using hn)] at hs
      simp [checkFails, isStream_opDone_data b hc hs] at hf
  · rw [opDone_byte_proto_of_unconfigured rfl (hpanel.dcCfg.symm.trans hc)]
    rfl

theorem PixelsChecked.pixel (h : PixelsChecked s) (color : Half) : PixelsChecked (opsDone (pixelOps color) s) :=
  (h.data _).data _

/-- Pixels that the checks leave alone are their bytes. -/
theorem PixelsChecked.writePixels (h : PixelsChecked s) (cs : List Half) :
    opsDone (writePixelsOps cs) s = opsDone (cs.flatMap pixelOps) s := by
  induction cs generalizing s with
  | nil => rfl
  | cons color rest ih =>
    have hfirst : opsDone (writePixelSeq color) s = opsDone (pixelOps color) s := by
      rw [writePixelSeq_eq, opsDone_cons, opDone_eq_self rfl h.drawing, opsDone_cons, opDone_eq_self rfl h.stream]
      rfl
    rw [writePixelsOps, List.flatMap_cons, List.flatMap_cons, opsDone_append, opsDone_append, hfirst]
    exact ih (h.pixel color)

/-- The checks of the first pixel leave those of the others nothing to mark. -/
theorem pixelsChecked_pixelChecks (hs : s.dcCfg = false → s.proto.isStream = false) :
    PixelsChecked (pixelChecks 1 s) := by
  have hchecks : ∀ c ∈ [Op.drawingCheck, .streamCheck 1], c.isCheck = true := by simp [Op.isCheck]
  obtain ⟨-, -, hmade⟩ := opsDone_checks hchecks s
  obtain ⟨hdc, hproto⟩ := pixelChecks_panel 1 s
  refine ⟨hmade .drawingCheck (by simp), hmade (.streamCheck 1) (by simp), ?_⟩
  rwa [hdc, hproto]

/-- One check for all pixels is a check for each of them (R136). -/
theorem opsDone_pixelBody_eq_writePixels {cs : List Half} (hcs : cs ≠ [])
    (hs : s.dcCfg = false → s.proto.isStream = false) :
    opsDone (.drawingCheck :: pixelBody cs) s = opsDone (writePixelsOps cs) s := by
  obtain ⟨color, rest, rfl⟩ := List.exists_cons_of_ne_nil hcs
  have hbody : opsDone (.drawingCheck :: pixelBody (color :: rest)) s =
      opsDone (rest.flatMap pixelOps) (opsDone (pixelOps color) (pixelChecks 1 s)) := by
    rw [pixelBody, List.flatMap_cons, opsDone_cons, opsDone_cons, opsDone_append]
    simp [opDone, pixelChecks, streamCheck]
  rw [hbody, writePixelsOps, List.flatMap_cons, opsDone_append]
  exact ((pixelsChecked_pixelChecks hs).pixel color |>.writePixels rest).symm

end

/-! ### write_color (R128, R129) -/

theorem runsAlone_writeColor (c : Config) (color : Half) (count : Word) : RunsAlone c (.writeColor color count) :=
  ⟨fun _ _ => rfl, List.forall_mem_cons.2 ⟨rfl, fun _ => readsElement_of_mem_colorOps⟩⟩

/-- The state after the bytes of write_color. -/
def afterColor (color : Half) (count : Word) (s : State) : State :=
  opsDone (.drawingCheck :: pixelBody (List.replicate count.toNat color)) s.idle

section
variable {color : Half} {count : Word} {s : State}

theorem exec_writeColor (hacc : Accepts (2 * count.toNat) s) :
    exec (.writeColor color count) s = .next (afterColor color count s).idle := by
  have hseq : sequenceOf s.cfg (.writeColor color count) =
      .drawingCheck :: pixelBody (List.replicate count.toNat color) := by
    rw [sequenceOf, writeColorSeq, colorOps_eq]
  rw [(runsAlone_writeColor s.cfg color count).exec_eq_opsDone, hseq, afterColor]
  rwa [hseq, byteCount_check_cons rfl, byteCount_pixelBody, List.length_replicate]

theorem afterColor_trace (color : Half) (count : Word) (s : State) :
    (afterColor color count s).trace = s.trace ++ colorEvents s color count.toNat := by
  have hsends := (sends_drawingCheck s).cons (sends_pixelBody (List.replicate count.toNat color) s)
  rw [colorEvents_eq]
  exact (hsends s.idle ⟨rfl, rfl, rfl, rfl⟩).2.1

/-- Where no stream is open before dc_init, the color is written as pixels, one after the other (R136). -/
theorem afterColor_eq_writePixels (hpos : 0 < count.toNat) (hs : s.dcCfg = false → s.proto.isStream = false) :
    afterColor color count s = opsDone (writePixelsOps (List.replicate count.toNat color)) s.idle :=
  opsDone_pixelBody_eq_writePixels (s := s.idle) (by simp; omega) hs

end

/-- Settles O32: the color is sent `count` times, the last byte with the pin High. -/
theorem writeColorSendsTheColorCountTimes : Obligations.WriteColorSendsTheColorCountTimes := by
  intro color count s hacc
  refine ⟨_, exec_writeColor hacc, rfl, afterColor_trace color count s, fun hc hpos => ?_⟩
  rw [State.idle_dc, afterColor_eq_writePixels hpos (by simp [hc])]
  exact opsDone_writePixelsOps_dc (by simp; omega) hc

/-- Settles O33: the second check is of no pixel, so only the first can mark. -/
theorem writeColorOfZeroOnlyChecksForInit : Obligations.WriteColorOfZeroOnlyChecksForInit := by
  intro color s
  have hexec : exec (.writeColor color 0) s = .next (drawingCheck s.idle).idle :=
    exec_writeColor fun _ _ => Nat.zero_le _
  rw [hexec]
  cases hi : s.initDone with
  | true =>
    have hcheck : drawingCheck s.idle = s.idle := by simp [drawingCheck, State.markIf, hi]
    rw [hcheck]; rfl
  | false =>
    have hcheck : drawingCheck s.idle = s.idle.mark .beforeInit := by simp [drawingCheck, State.markIf, hi]
    rw [hcheck]; rfl

/-- Settles O34: the requests run as one sequence, in which one check for all pixels is a check for each. -/
theorem writeColorIsRepeatedWritePixel : Obligations.WriteColorIsRepeatedWritePixel := by
  intro color count s hinv hpos hacc
  have hs (hc : s.dcCfg = false) : s.proto.isStream = false := by
    obtain ⟨-, hproto, -⟩ := hinv.unconfigured hc
    rw [hproto]
    rfl
  obtain ⟨n, hn⟩ := Nat.exists_eq_add_of_le' hpos
  have hrequests : List.replicate count.toNat (Instr.writePixel color) =
      .writePixel color :: (List.replicate n color).map .writePixel := by
    rw [hn, List.replicate_succ, List.map_replicate]
  have hpixels : (Instr.writePixel color :: (List.replicate n color).map .writePixel).flatMap (sequenceOf s.cfg) =
      writePixelsOps (List.replicate count.toNat color) := by
    rw [← List.map_cons, ← List.replicate_succ, ← hn, flatMap_sequenceOf_writePixel]
  rw [exec_writeColor hacc, afterColor_eq_writePixels hpos hs, hrequests, execAll_cons, hpixels]
  · simp [runsAlone_writePixel]
  · rwa [hpixels, byteCount_writePixelsOps, List.length_replicate]

end Sys2Proof.Machine
end

section
/-! A window and its pixels in one request (R130, R131, R134, R135): write_fill_rect and push_pixels end where
set_addr_window and then the pixels one after the other end, because the window bytes leave the checks of a pixel nothing
to mark; the pixel of a buffer element is the one its two wire bytes make. -/

namespace Sys2Proof.Machine

/-! ### A window and then its pixels -/

/-- The state after the bytes of set_addr_window and those of the pixels `cs`. -/
def afterWindowPixels (x y w h : Half) (cs : List Half) (s : State) : State :=
  opsDone (writePixelsOps cs) (afterWindow x y w h s)

section
variable {x y w h : Half} {cs : List Half} {s : State}

theorem checkMade_afterWindow (x y w h : Half) (s : State) : CheckMade .drawingCheck (afterWindow x y w h s) := by
  intro hf
  rw [checkFails, (afterWindow_panel x y w h s).1] at hf
  exact has_beforeInit_afterWindow (by simpa using hf)

/-- The last of the window bytes is a command (R116). -/
theorem exists_afterWindow_eq (x y w h : Half) (s : State) :
    ∃ u, afterWindow x y w h s = opDone (.command s.cfg.opRamwr) u ∧ u.dcCfg = s.dcCfg := by
  obtain ⟨ranges, hseq, hranges⟩ : ∃ ranges,
      setAddrWindowSeq s.cfg x y w h = ranges ++ [.command s.cfg.opRamwr] ∧ .configureDc ∉ ranges :=
    ⟨.drawingCheck :: (rangeOps s.cfg.opCaset x (windowEnd x w) ++ rangeOps s.cfg.opPaset y (windowEnd y h)),
      by simp [setAddrWindowSeq, windowOps], by simp [rangeOps]⟩
  exact ⟨opsDone ranges s.idle, by rw [afterWindow, hseq, opsDone_append]; rfl,
    (opsDone_sameRegisters ranges s.idle).dcCfg hranges⟩

/-- Before dc_init the window bytes open no stream (R107). -/
theorem isStream_afterWindow_of_unconfigured (x y w h : Half) (hc : s.dcCfg = false) :
    (afterWindow x y w h s).proto.isStream = false := by
  obtain ⟨u, hu, hdc⟩ := exists_afterWindow_eq x y w h s
  rw [hu, opDone_byte_proto_of_unconfigured rfl (hdc.trans hc)]
  rfl

/-- After the window bytes, initialization need not be checked again (R33, R123). -/
theorem drawingCheck_afterWindow (x y w h : Half) (ops : List Op) (s : State) :
    opsDone (.drawingCheck :: ops) (afterWindow x y w h s) = opsDone ops (afterWindow x y w h s) := by
  rw [opsDone_cons, opDone_eq_self rfl (checkMade_afterWindow x y w h s)]

/-- `WriteColorBody` after the window bytes writes its pixels one after the other (R126, R136). -/
theorem opsDone_pixelBody_afterWindow (x y w h : Half) (cs : List Half) (s : State) :
    opsDone (setAddrWindowSeq s.cfg x y w h ++ pixelBody cs) s.idle = afterWindowPixels x y w h cs s := by
  rw [opsDone_append, ← afterWindow, afterWindowPixels]
  obtain rfl | hcs := eq_or_ne cs []
  · simp [pixelBody, writePixelsOps, opDone, streamCheck, State.markIf]
  · rw [← drawingCheck_afterWindow, opsDone_pixelBody_eq_writePixels hcs]
    rw [(afterWindow_panel x y w h s).2]
    exact isStream_afterWindow_of_unconfigured x y w h

/-- The level is that of the last byte: a command without pixels, else data (R87, R88). -/
theorem afterWindowPixels_dc (hc : s.dcCfg = true) :
    (afterWindowPixels x y w h cs s).dc = if cs.length = 0 then .undef else .high := by
  rw [afterWindowPixels]
  split
  · rename_i hcs
    rw [List.length_eq_zero_iff.1 hcs, writePixelsOps, List.flatMap_nil, opsDone_nil, afterWindow_dc hc]
  · rename_i hcs
    exact opsDone_writePixelsOps_dc (by rintro rfl; exact hcs rfl) ((afterWindow_panel x y w h s).2.trans hc)

theorem execAll_setAddrWindow_writePixels (hacc : Accepts (11 + 2 * cs.length) s) :
    execAll (.setAddrWindow x y w h :: cs.map .writePixel) s = .next (afterWindowPixels x y w h cs s).idle := by
  rw [execAll, exec_setAddrWindow fun m hm => (Nat.le_add_right _ _).trans (hacc m hm)]
  exact execAll_writePixels hacc

end

/-! ### write_fill_rect (R134, R135) -/

theorem runsAlone_writeFillRect (c : Config) (x y w h color : Half) : RunsAlone c (.writeFillRect x y w h color) := by
  refine ⟨fun s hs => by rw [← hs]; rfl, fun o ho => ?_⟩
  obtain ho | ho := List.mem_append.1 ho
  · exact (runsAlone_setAddrWindow c x y w h).readsElement o ho
  · exact readsElement_of_mem_colorOps ho

section
variable {x y w h color : Half} {s : State}

/-- The colours of the pixels of a rectangle. -/
def rectPixels (w h color : Half) : List Half := List.replicate (pixelCount w h) color

theorem length_rectPixels (w h color : Half) : (rectPixels w h color).length = w.toNat * h.toNat :=
  List.length_replicate

theorem writeFillRectSeq_eq (c : Config) (x y w h color : Half) : writeFillRectSeq c x y w h color =
    setAddrWindowSeq c x y w h ++ pixelBody (rectPixels w h color) := by
  rw [writeFillRectSeq, colorOps_eq]; rfl

theorem exec_writeFillRect (hacc : Accepts (11 + 2 * (w.toNat * h.toNat)) s) :
    exec (.writeFillRect x y w h color) s = .next (afterWindowPixels x y w h (rectPixels w h color) s).idle := by
  have hseq : sequenceOf s.cfg (.writeFillRect x y w h color) = _ := writeFillRectSeq_eq s.cfg x y w h color
  rw [(runsAlone_writeFillRect s.cfg x y w h color).exec_eq_opsDone, hseq, opsDone_pixelBody_afterWindow]
  rw [hseq, byteCount_append, byteCount_pixelBody, length_rectPixels]
  exact hacc

/-- The two operands of a rectangle cannot ask for more pixels than a count holds (R189). -/
theorem toNat_ofNat_pixelCount (w h : Half) : (BitVec.ofNat 32 (w.toNat * h.toNat)).toNat = w.toNat * h.toNat := by
  have hlt : w.toNat * h.toNat < 2 ^ 16 * 2 ^ 16 := Nat.mul_lt_mul'' w.isLt h.isLt
  rw [BitVec.toNat_ofNat, Nat.mod_eq_of_lt]
  omega

end

/-- Settles O35: the second `DrawingCheck` finds nothing to mark. -/
theorem fillRectIsWindowThenColor : Obligations.FillRectIsWindowThenColor := by
  intro x y w h color s hacc
  have hseq : [Instr.setAddrWindow x y w h, .writeColor color (BitVec.ofNat 32 (w.toNat * h.toNat))].flatMap
      (sequenceOf s.cfg) = setAddrWindowSeq s.cfg x y w h ++ .drawingCheck :: pixelBody (rectPixels w h color) := by
    rw [List.flatMap_cons, List.flatMap_singleton, sequenceOf, sequenceOf, writeColorSeq, colorOps_eq,
      toNat_ofNat_pixelCount]
    rfl
  rw [exec_writeFillRect hacc, execAll_cons, hseq, opsDone_append, ← afterWindow, drawingCheck_afterWindow,
    ← opsDone_pixelBody_afterWindow, opsDone_append, ← afterWindow]
  · simp [runsAlone_setAddrWindow, runsAlone_writeColor]
  · rw [hseq, byteCount_append, byteCount_check_cons rfl, byteCount_pixelBody, length_rectPixels]
    exact hacc

/-- Settles O36: the pixels follow the window bytes. -/
theorem fillRectEmitsWindowAndItsPixels : Obligations.FillRectEmitsWindowAndItsPixels := by
  intro x y w h color s hacc
  refine ⟨_, exec_writeFillRect hacc, rfl, ?_, fun hc => ?_⟩
  · rw [colorEvents_eq]
    exact afterPixels_trace x y w h (rectPixels w h color) s
  · rw [State.idle_dc, afterWindowPixels_dc hc, length_rectPixels]

/-! ### The pixel of a buffer element (R51) -/

/-- The 16-bit value whose two bytes, high byte first, are the bytes of an element on the wire. -/
def wirePixel (o : PixelOrder) (v : Half) : Half := joinBytes (firstWireByte o v) (secondWireByte o v)

theorem hiByte_joinBytes (a b : Byte) : hiByte (joinBytes a b) = a := by
  unfold hiByte joinBytes
  exact BitVec.extractLsb'_append_eq_left

theorem loByte_joinBytes (a b : Byte) : loByte (joinBytes a b) = b := by
  unfold loByte joinBytes
  exact BitVec.extractLsb'_append_eq_right

theorem wirePixel_eq (o : PixelOrder) (v : Half) : wirePixel o v =
    match o with
    | .hiFirst => v
    | .loFirst => v.extractLsb' 0 8 ++ v.extractLsb' 8 8 := by
  cases o with
  | hiFirst => exact joinBytes_hiByte_loByte v
  | loFirst => rfl

theorem elementEvents_eq_halfEvents (s : State) (v : Half) :
    elementEvents s v = halfEvents s (wirePixel s.cfg.pushPixelOrder v) := by
  rw [elementEvents_eq]
  exact congrArg₂ (fun a b => [dataEvent s a, dataEvent s b]) (hiByte_joinBytes _ _).symm (loByte_joinBytes _ _).symm

/-! ### An element is sent as its pixel (R131) -/

/-- The state with another element at hand. -/
def State.holding (e : Option Half) (s : State) : State := { s with elem := e }

section
variable {s : State} {a : Word} {v : Half}

theorem markLevel_driveDc_holding (l : DcLevel) (e : Option Half) (s : State) :
    markLevel (driveDc l (s.holding e)) = (markLevel (driveDc l s)).holding e := by
  have hmark (p : Bool) (m : Violation) (t : State) : (t.holding e).markIf p m = (t.markIf p m).holding e := by
    cases p <;> rfl
  have hdrive : driveDc l (s.holding e) = (driveDc l s).holding e := by
    unfold driveDc
    rw [apply_ite (State.holding e)]; rfl
  rw [hdrive, markLevel, hmark, hmark]; rfl

/-- The tracker does not look at the element at hand. -/
theorem sentByte_holding (l : DcLevel) (b : Byte) (e : Option Half) (s : State) :
    sentByte l b (s.holding e) = (sentByte l b s).holding e := by
  have hsame : SameTracker s (s.holding e) := ⟨rfl, rfl, rfl, rfl, rfl, rfl, rfl, rfl, rfl⟩
  rw [hsame.sentByte_eq, (SameTracker.refl s).sentByte_eq]; rfl

/-- The first byte of an element is a data byte, with the element then at hand. -/
theorem opDone_elemFirst_eq (h : elementAt a s = some v) : opDone (.elemFirst a) s =
    (opDone (.data (firstWireByte s.cfg.pushPixelOrder v)) s).holding (some v) := by
  have hbyte : opByte (.elemFirst a) s = firstWireByte s.cfg.pushPixelOrder v := by simp only [opByte, h]
  have hwait : opWait (.elemFirst a) s = (markLevel (driveDc .high s)).holding (some v) :=
    (opWait_elemFirst h).trans (markLevel_driveDc_holding .high (some v) s)
  simp only [opDone, hbyte, hwait, sentByte_holding]

/-- The second byte of the element at hand is a data byte, with no element then at hand. -/
theorem opDone_elemSecond_eq (a : Word) (v : Half) (s : State) : opDone (.elemSecond a) (s.holding (some v)) =
    (opDone (.data (secondWireByte s.cfg.pushPixelOrder v)) s).holding none := by
  have hwait : opWait (.elemSecond a) (s.holding (some v)) = (markLevel (driveDc .high s)).holding (some v) :=
    markLevel_driveDc_holding .high (some v) s
  have hlevel : effLevel (driveDc .high (s.holding (some v))) = effLevel (driveDc .high s) := effLevel_elem s _ _
  simp only [opDone, hwait, hlevel, sentByte_holding]; rfl

/-- An element that is read now sends the bytes of its pixel. -/
theorem opsDone_elementOps {buf : Word} {i : Nat} (helem : s.elem = none)
    (h : elementAt (elementAddr buf i) s = some v) :
    opsDone (elementOps buf i) s = opsDone (pixelOps (wirePixel s.cfg.pushPixelOrder v)) s := by
  have hcfg (b : Byte) : (opDone (.data b) s).cfg = s.cfg := (opDone_base _ s).cfg
  have hnone (b d : Byte) :
      (opDone (.data d) (opDone (.data b) s)).holding none = opDone (.data d) (opDone (.data b) s) := by
    have hkept : (opDone (.data d) (opDone (.data b) s)).elem = none :=
      (opDone_elem rfl _).trans ((opDone_elem rfl s).trans helem)
    rw [State.holding, ← hkept]
  rw [elementOps, opsDone_cons, opDone_elemFirst_eq h, opsDone_cons, opDone_elemSecond_eq, hcfg, hnone, pixelOps,
    wirePixel, hiByte_joinBytes, loByte_joinBytes]
  rfl

end

/-- The pixels of the elements `e 0` to `e (n - 1)`. -/
def elementPixels (c : Config) (n : Nat) (e : Nat → Half) : List Half :=
  (List.range n).map fun i => wirePixel c.pushPixelOrder (e i)

theorem length_elementPixels (c : Config) (n : Nat) (e : Nat → Half) : (elementPixels c n e).length = n := by
  simp [elementPixels]

/-- Elements that host memory holds send the bytes of their pixels (R52, R131). -/
theorem opsDone_elements {s t : State} {buf : Word} {n : Nat} {e : Nat → Half} (he : HoldsElements s buf n e)
    (ht : SendsLike s t) : opsDone ((List.range n).flatMap (elementOps buf)) t =
      opsDone ((elementPixels s.cfg n e).flatMap pixelOps) t := by
  have helements (l : List Nat) (hl : ∀ i ∈ l, i < n) {t : State} (ht : SendsLike s t) :
      opsDone (l.flatMap (elementOps buf)) t =
        opsDone ((l.map fun i => wirePixel s.cfg.pushPixelOrder (e i)).flatMap pixelOps) t := by
    induction l generalizing t with
    | nil => rfl
    | cons i rest ih =>
      rw [List.forall_mem_cons] at hl
      have hread : elementAt (elementAddr buf i) t = some (e i) :=
        (ht.elementAt_eq _).trans (readElement_of_holdsElements he hl.1)
      have hpixel := opsDone_elementOps ht.elem hread
      rw [ht.cfg] at hpixel
      obtain ⟨-, -, hlike⟩ := sends_pixelOps (wirePixel s.cfg.pushPixelOrder (e i)) s t ht
      rw [List.flatMap_cons, opsDone_append, hpixel, ih hl.2 hlike, List.map_cons, List.flatMap_cons, opsDone_append]
  exact helements _ (fun i => List.mem_range.1) ht

/-! ### push_pixels (R130, R131) -/

/-- Settles O37: the address check comes first. -/
theorem oddBufferAddressFaultsBeforeAnyEffect : Obligations.OddBufferAddressFaultsBeforeAnyEffect := by
  intro x y w h buf s hodd
  rw [exec, execPushPixels, if_pos ((misaligned_iff buf).2 hodd)]
  rfl

section
variable {x y w h : Half} {buf : Word} {s : State} {e : Nat → Half}

/-- The whole sequence of push_pixels is the window bytes and the bytes of the elements' pixels. -/
theorem opsDone_pushPixelsSeq (x y : Half) (he : HoldsElements s buf (pixelCount w h) e) :
    opsDone (pushPixelsSeq s.cfg x y w h buf) s.idle =
      afterWindowPixels x y w h (elementPixels s.cfg (pixelCount w h) e) s := by
  obtain ⟨-, -, hwindow⟩ := sends_setAddrWindowSeq x y w h s s.idle ⟨rfl, rfl, rfl, rfl⟩
  obtain ⟨-, -, hcheck⟩ := sends_streamCheck (pixelCount w h) s _ hwindow
  have hseq : pushPixelsSeq s.cfg x y w h buf = setAddrWindowSeq s.cfg x y w h ++
      .streamCheck (pixelCount w h) :: (List.range (pixelCount w h)).flatMap (elementOps buf) := rfl
  rw [opsDone_cons, opsDone_nil] at hcheck
  rw [hseq, opsDone_append, opsDone_cons, opsDone_elements he hcheck, ← opsDone_pixelBody_afterWindow,
    opsDone_append, pixelBody, opsDone_cons, length_elementPixels]

theorem exec_pushPixels (hbuf : buf.toNat % 2 = 0) (he : HoldsElements s buf (w.toNat * h.toNat) e)
    (hacc : Accepts (11 + 2 * (w.toNat * h.toNat)) s) : exec (.pushPixels x y w h buf) s =
      .next (afterWindowPixels x y w h (elementPixels s.cfg (pixelCount w h) e) s).idle := by
  have haligned : ¬ misaligned buf = true := by rw [misaligned_iff]; omega
  have hbegin : s.begin (.pushPixels x y w h buf) = s.idle.moved (some (.pushPixels x y w h buf)) 0 := rfl
  obtain ⟨hready, -, -⟩ :=
    sends_pushPixelsBefore x y w h he (s.begin (.pushPixels x y w h buf)) ⟨rfl, rfl, rfl, rfl⟩
  have hrun : runRequest (.pushPixels x y w h buf) (pushPixelsSeq s.cfg x y w h buf) s = _ :=
    runRequest_accepts ((byteCount_pushPixelsBefore s.cfg x y w h buf (pixelCount w h)).symm ▸ hacc) hready
  rw [exec, execPushPixels, if_neg haligned, hrun, hbegin, opsDone_moved, State.moved_idle,
    opsDone_pushPixelsSeq x y he]

end

/-- Settles O38: the pixels of the elements follow the window bytes. -/
theorem pushPixelsStreamsTheBuffer : Obligations.PushPixelsStreamsTheBuffer := by
  intro x y w h buf s e hbuf he hacc
  refine ⟨_, exec_pushPixels hbuf he hacc, rfl, ?_, fun hc => ?_⟩
  · have hevents : (elementPixels s.cfg (pixelCount w h) e).flatMap (halfEvents s) =
        (List.range (pixelCount w h)).flatMap fun i => elementEvents s (e i) := by
      simp only [elementPixels, List.flatMap_map, elementEvents_eq_halfEvents]
    rw [State.idle_trace, afterWindowPixels, afterPixels_trace, hevents]
    rfl
  · rw [State.idle_dc, afterWindowPixels_dc hc, length_elementPixels]
    rfl

/-- Settles O39: both sides send the window bytes and the pixels of the elements. -/
theorem pushPixelsIsWindowThenItsPixels : Obligations.PushPixelsIsWindowThenItsPixels := by
  intro x y w h buf s e hbuf he hacc
  have hwindow := execAll_setAddrWindow_writePixels (x := x) (y := y) (w := w) (h := h) (s := s)
    (cs := elementPixels s.cfg (pixelCount w h) e) (by rw [length_elementPixels]; exact hacc)
  rw [exec_pushPixels hbuf he hacc, ← hwindow, elementPixels, List.map_map]
  congr 2
  exact List.map_congr_left fun i _ => congrArg Instr.writePixel (wirePixel_eq _ _)

end Sys2Proof.Machine
end

section
/-! Where buffer elements land (R102, R132, R138): the burst of a memory-write command is the bytes after it, its pixels
are those the request sent, and the window commands tell the panel nothing of its orientation. -/

namespace Sys2Proof.Machine

/-! ### The burst after a command (R77) -/

/-- The events of a command with its data bytes (R16). -/
def commandEvents (op : Byte) (bs : List Byte) : List Event := .byte .low op :: bs.map (.byte .high)

theorem leadingData_high_append (bs : List Byte) (op : Byte) (evs : List Event) :
    leadingData (bs.map (.byte .high) ++ .byte .low op :: evs) = bs := by
  induction bs with
  | nil => rfl
  | cons b rest ih => rw [List.map_cons, List.cons_append, leadingData, ih]

theorem currentBurst_command (evs : List Event) (op : Byte) (bs : List Byte) :
    currentBurst (evs ++ commandEvents op bs) = bs := by
  have hreverse : (evs ++ commandEvents op bs).reverse =
      bs.reverse.map (.byte .high) ++ .byte .low op :: evs.reverse := by
    simp [commandEvents]
  rw [currentBurst, hreverse, leadingData_high_append, List.reverse_reverse]

/-- The bytes of pixels, each high byte first (R50). -/
def pixelBytes (cs : List Half) : List Byte := cs.flatMap fun v => [hiByte v, loByte v]

theorem burstPixels_pixelBytes (cs : List Half) : burstPixels (pixelBytes cs) = cs := by
  induction cs with
  | nil => rfl
  | cons v rest ih =>
    calc burstPixels (pixelBytes (v :: rest))
      _ = joinBytes (hiByte v) (loByte v) :: burstPixels (pixelBytes rest) := rfl
      _ = v :: rest := by rw [joinBytes_hiByte_loByte, ih]

/-! ### The events of a window and its pixels through a configured pin -/

section
variable {x y w h : Half} {cs : List Half} {s : State}

theorem flatMap_halfEvents (hc : s.dcCfg = true) (cs : List Half) :
    cs.flatMap (halfEvents s) = (pixelBytes cs).map (.byte .high) := by
  have hhalf : halfEvents s = fun v => [.byte .high (hiByte v), .byte .high (loByte v)] := by
    funext v
    simp [halfEvents, dataEvent, drivenLevel, hc, hiByte, loByte]
  rw [pixelBytes, List.map_flatMap, hhalf]
  rfl

/-- The trace ends in three commands: the two ranges, and the memory-write with the pixels (R116, R126). -/
theorem afterWindowPixels_trace (hc : s.dcCfg = true) : (afterWindowPixels x y w h cs s).trace =
    s.trace ++ commandEvents s.cfg.opCaset (rangeBytes x (endOf x w)) ++
      commandEvents s.cfg.opPaset (rangeBytes y (endOf y h)) ++ commandEvents s.cfg.opRamwr (pixelBytes cs) := by
  have hwindow : windowEvents s x y w h = commandEvents s.cfg.opCaset (rangeBytes x (endOf x w)) ++
      commandEvents s.cfg.opPaset (rangeBytes y (endOf y h)) ++ [.byte .low s.cfg.opRamwr] := by
    simp [windowEvents, commandEvents, rangeBytes, cmdEvent, halfEvents, dataEvent, drivenLevel, hc, hiByte, loByte]
  rw [afterWindowPixels, afterPixels_trace, flatMap_halfEvents hc, hwindow]
  simp [commandEvents]

/-- The window commands and the memory-write are neither memory-access-control nor the software reset (R10). -/
theorem windowOpcodes_ne {c : Config} (h : c.distinctOps = true) :
    (c.opCaset ≠ c.opMadctl ∧ c.opCaset ≠ c.opSwreset) ∧ (c.opPaset ≠ c.opMadctl ∧ c.opPaset ≠ c.opSwreset) ∧
      c.opRamwr ≠ c.opMadctl ∧ c.opRamwr ≠ c.opSwreset := by
  have hnodup := of_decide_eq_true h
  refine ⟨⟨?_, ?_⟩, ⟨?_, ?_⟩, ?_, ?_⟩ <;> rintro he <;> simp [Config.ops, he] at hnodup

/-- A window and its pixels leave the orientation the panel was told (R76, R102). -/
theorem panelOrientation_afterWindowPixels (hc : s.dcCfg = true) (hd : s.cfg.distinctOps = true) :
    panelOrientation s.cfg (afterWindowPixels x y w h cs s).trace = panelOrientation s.cfg s.trace := by
  obtain ⟨⟨hcm, hcr⟩, ⟨hpm, hpr⟩, hwm, hwr⟩ := windowOpcodes_ne hd
  rw [afterWindowPixels_trace hc]
  simp only [commandEvents]
  rw [panelOrientation_other_command hwm hwr, panelOrientation_other_command hpm hpr,
    panelOrientation_other_command hcm hcr]

/-! ### Where the tracker stands (R114, R132) -/

theorem isPixelOp_of_mem_writePixelsOps {o : Op} (h : o ∈ writePixelsOps cs) : o.isPixelOp = true := by
  obtain ⟨color, -, h⟩ := List.mem_flatMap.1 h
  obtain rfl | h := List.mem_cons.1 h
  · rfl
  · exact isPixelOp_of_mem_colorOps h

/-- The pixels of a window that fits fill its stream, and the window stands as it was set. -/
theorem afterWindowPixels_stream {pw ph : Half} (hc : s.dcCfg = true) (hd : s.cfg.distinctOps = true)
    (hw : s.width = some pw) (hh : s.height = some ph) (hfits : WindowFits x y w h pw ph)
    (hlen : cs.length = w.toNat * h.toNat) :
    let t := afterWindowPixels x y w h cs s
    t.proto = .stream (some 0) ∧ t.winSc = some x ∧ t.winEc = some (endOf x w) ∧ t.winSp = some y := by
  have howes := owes_afterWindow hc hd hw hh hfits
  have htracker := afterWindow_tracker (x := x) (y := y) (w := w) (h := h) hc hd
  rw [openStream_of_count (openCount_windowSet_of_fits ((drawingCheck_width s).trans hw)
    ((drawingCheck_height s).trans hh) hfits)] at htracker
  have hopen : InStream (afterWindow x y w h s) (afterWindow x y w h s) :=
    ⟨howes.dcCfg, by rw [howes.proto]; rfl, rfl, rfl, rfl, rfl⟩
  obtain ⟨-, -, hsc, hec, hsp, -⟩ := opsDone_inStream (fun _ => isPixelOp_of_mem_writePixelsOps (cs := cs)) hopen
  exact ⟨(Owes.writePixels (hlen ▸ howes)).proto, hsc.trans htracker.winSc, hec.trans htracker.winEc,
    hsp.trans htracker.winSp⟩

/-- In a counted stream the pixels of the burst lie in row-major order (R132, R138). -/
theorem frameWrites_of_stream {t : State} {r : Nat} {sc ec sp : Half} (hp : t.proto = .stream (some r))
    (hsc : t.winSc = some sc) (hec : t.winEc = some ec) (hsp : t.winSp = some sp) : frameWrites t =
      (burstPixels (currentBurst t.trace)).zipIdx.map fun p => (pixelPlace sc ec sp p.2, p.1) := by
  simp only [frameWrites, hp, hsc, hec, hsp]

theorem frameWrites_idle (s : State) : frameWrites s.idle = frameWrites s := rfl

theorem pixelPlace_window {pw ph : Half} (hfits : WindowFits x y w h pw ph) (k : Nat) :
    pixelPlace x (endOf x w) y k = (x.toNat + k % w.toNat, y.toNat + k / w.toNat) := by
  obtain ⟨hw, -, hcol, -⟩ := hfits
  rw [pixelPlace, range_extent hw hcol]

end

theorem zipIdx_map_range {α : Type} (f : Nat → α) (n : Nat) :
    ((List.range n).map f).zipIdx = (List.range n).map fun i => (f i, i) :=
  List.ext_getElem (by simp) fun i _ _ => by simp

/-- Settles O41: the burst is the pixels of the elements, and the window is the one the request set. -/
theorem bufferElementsLandInRowMajorOrder : Obligations.BufferElementsLandInRowMajorOrder := by
  intro x y w h buf s e pw ph hbuf he hacc hc hd hw hh hfits horient
  have hexec := exec_pushPixels (x := x) (y := y) hbuf he hacc
  obtain ⟨m, hrot, hview⟩ := horient
  obtain ⟨hproto, hsc, hec, hsp⟩ := afterWindowPixels_stream hc hd hw hh hfits 
    (length_elementPixels s.cfg (pixelCount w h) e)
  refine ⟨_, hexec, ⟨m, ?_, ?_⟩, ?_⟩
  · obtain ⟨hgeometry, -⟩ := exec_geometry hexec nofun nofun
    exact hgeometry.trans hrot
  · obtain ⟨hcfg, -⟩ := exec_base hexec
    rw [hcfg, State.idle_trace, panelOrientation_afterWindowPixels hc hd, hview]
  · rw [frameWrites_idle, frameWrites_of_stream hproto hsc hec hsp, afterWindowPixels_trace hc, currentBurst_command,
      burstPixels_pixelBytes, elementPixels, zipIdx_map_range, List.map_map]
    exact List.map_congr_left fun i _ => Prod.ext (pixelPlace_window hfits i) (wirePixel_eq _ _)

end Sys2Proof.Machine
end

section
/-! The text cursor (R139 to R143): what its two requests do, and that no operation reads the cursor, so a request that
holds no `setCursor` goes the same way with another one. -/

namespace Sys2Proof.Machine

/-- Settles O42: the one operation of the request is `setCursor`. -/
theorem setCursorStoresItsOperandsAndNothingElse : Obligations.SetCursorStoresItsOperandsAndNothingElse :=
  fun _ _ _ => rfl

/-- Settles O43: the request is `refuse`, and without an input a refused block can only proceed. -/
theorem writeTextIsRefusedByName : Obligations.WriteTextIsRefusedByName := by
  refine ⟨fun _ _ _ => rfl, fun s r hfault hrefused hinput => ?_⟩
  rw [step, stepWith, hinput]
  exact proceed_of_refused hfault hrefused

/-! ### The cursor is read by no operation -/

/-- The state with another cursor. -/
def State.withCursor (a b : Option Half) (s : State) : State := { s with cursorX := a, cursorY := b }

section
variable (a b : Option Half) (s : State)

theorem State.markIf_withCursor (p : Bool) (v : Violation) :
    (s.withCursor a b).markIf p v = (s.markIf p v).withCursor a b := by
  cases p <;> rfl

theorem driveDc_withCursor (l : DcLevel) : driveDc l (s.withCursor a b) = (driveDc l s).withCursor a b := by
  unfold driveDc
  rw [apply_ite (State.withCursor a b)]; rfl

theorem markLevel_withCursor : markLevel (s.withCursor a b) = (markLevel s).withCursor a b := by
  unfold markLevel
  rw [State.markIf_withCursor, State.markIf_withCursor]; rfl

theorem sentByte_withCursor (l : DcLevel) (x : Byte) :
    sentByte l x (s.withCursor a b) = (sentByte l x s).withCursor a b := by
  have hother : SameTracker s (s.withCursor a b) := ⟨rfl, rfl, rfl, rfl, rfl, rfl, rfl, rfl, rfl⟩
  rw [hother.sentByte_eq, (SameTracker.refl s).sentByte_eq]; rfl

theorem byteLevel_withCursor (o : Op) : byteLevel o (s.withCursor a b) = byteLevel o s := by
  have hlevel (t : State) : effLevel (t.withCursor a b) = effLevel t := rfl
  cases o <;> simp only [byteLevel, driveDc_withCursor, hlevel]

theorem opByte_withCursor (o : Op) : opByte o (s.withCursor a b) = opByte o s := by
  cases o <;> rfl

theorem opWait_withCursor (o : Op) : opWait o (s.withCursor a b) = (opWait o s).withCursor a b := by
  have hdrive (l : DcLevel) (t : State) :
      markLevel (driveDc l (t.withCursor a b)) = (markLevel (driveDc l t)).withCursor a b := by
    rw [driveDc_withCursor, markLevel_withCursor]
  have helem (w : Word) : elementAt w (s.withCursor a b) = elementAt w s := rfl
  cases o with
  | command x | data x => exact hdrive _ s
  | raw x => exact markLevel_withCursor a b s
  | elemFirst w | elemSecond w =>
    simp only [opWait, helem]
    split
    · rename_i v _
      exact hdrive _ { s with elem := some v }
    · rfl
  | _ => rfl

theorem afterByte_withCursor (o : Op) : afterByte o (s.withCursor a b) = (afterByte o s).withCursor a b := by
  cases o with
  | command x =>
    simp only [afterByte, releaseDc]
    rw [apply_ite (State.withCursor a b)]; rfl
  | _ => rfl

theorem opDone_withCursor {o : Op} (ho : ∀ x y, o ≠ .setCursor x y) :
    opDone o (s.withCursor a b) = (opDone o s).withCursor a b := by
  cases hb : o.isByte with
  | true =>
    rw [opDone_of_isByte hb, opDone_of_isByte hb, byteLevel_withCursor, opByte_withCursor, opWait_withCursor,
      sentByte_withCursor, afterByte_withCursor]
  | false =>
    cases o with
    | setCursor x y => exact absurd rfl (ho x y)
    | driveDc l => exact driveDc_withCursor a b s l
    | drawingCheck | streamCheck n => exact State.markIf_withCursor a b s _ _
    | command x | data x | raw x | elemFirst w | elemSecond w => cases hb
    | _ => rfl

end

/-! ### Runs -/

/-- The two states differ in the cursor alone, which is `(a, b)` in the second. -/
def OtherCursor (a b : Option Half) (s t : State) : Prop := t = s.withCursor a b

theorem OtherCursor.runOp {a b : Option Half} {s t : State} {o : Op} (ho : ∀ x y, o ≠ .setCursor x y)
    (h : OtherCursor a b s t) : SameProgress (OtherCursor a b) (runOp o s) (runOp o t) := by
  cases h
  exact sameProgress_runOp rfl (by cases o <;> rfl) rfl (opWait_withCursor a b s o) (opDone_withCursor a b s ho)

/-- A sequence without `setCursor` runs alike, and keeps the cursor it is given. -/
theorem runRequest_withCursor {ops : List Op} (hops : ∀ x y, .setCursor x y ∉ ops) (i : Instr) (a b : Option Half)
    (s : State) : runRequest i ops (s.withCursor a b) = mapNext (State.withCursor a b) (runRequest i ops s) := by
  have hstep (o : Op) (ho : o ∈ ops) (s t : State) : OtherCursor a b s t →
      SameProgress (OtherCursor a b) (runOp o s) (runOp o t) :=
    OtherCursor.runOp fun x y he => hops x y (he ▸ ho)
  have hbegin : OtherCursor a b (s.begin i) ((s.withCursor a b).begin i) := rfl
  have hidle (s t : State) (h : OtherCursor a b s t) : OtherCursor a b s.idle t.idle := congrArg State.idle h
  have hrun := sameOutcome_runRequest hidle (sameProgress_runOps hstep hbegin)
  revert hrun
  generalize runRequest i ops s = p, runRequest i ops (s.withCursor a b) = q
  rintro (rfl | why) <;> rfl

/-- Settles O51: the two requests that end without a run do not look at the cursor, and every other one runs a sequence
without `setCursor`. -/
theorem onlySetCursorReadsOrWritesTheCursor : Obligations.OnlySetCursorReadsOrWritesTheCursor := by
  intro i s a b hi
  have hops (x y : Half) : .setCursor x y ∉ sequenceOf s.cfg i := fun hmem =>
    let ⟨u, v, he⟩ := setCursor_mem_sequenceOf hmem
    hi u v he
  have hrun := runRequest_withCursor hops i a b s
  cases i with
  | writeText f addr => rfl
  | pushPixels x y w h buf =>
    simp only [exec, execPushPixels]
    split
    · rfl
    · exact hrun
  | _ => exact hrun

end Sys2Proof.Machine
end

section
/-! Stops (R146, R165): a faulted block and an unfinished request have no step. -/

namespace Sys2Proof.Machine

/-- A step with no input pending is the block's own (R160). -/
theorem step_of_no_input {s : State} (h : s.input = none) : step s = proceed s := by
  rw [step, stepWith, h]

/-- Settles O48: without an input a faulted block can only proceed. -/
theorem faultedBlockTakesNoStep : Obligations.FaultedBlockTakesNoStep := by
  intro s f info hfault hinput
  rw [step_of_no_input hinput]
  exact proceed_of_fault hfault

/-- A sequence is stuck on the transport or on host memory (R165). -/
theorem eq_of_runOps_stuck {ops : List Op} {s t : State} {why : Fault} (h : runOps ops s = .stuck why t) :
    why = .transportStalled ∨ why = .memoryNotAdmitted := by
  obtain ⟨pre, o, post, -, -, ho⟩ := runOps_stuck h
  obtain ⟨-, -, ⟨rfl, -⟩ | ⟨rfl, -⟩⟩ := runOp_stuck ho
  · exact .inr rfl
  · exact .inl rfl

/-- Settles O57: only a request whose sequence is stuck is left in flight, and it stays stuck for the same reason. -/
theorem unfinishedRequestIsStuck : Obligations.UnfinishedRequestIsStuck := by
  rintro i s t ⟨-, hfault, hrefused, hinput⟩ h hbusy
  obtain ⟨j, hreq⟩ := Option.isSome_iff_exists.1 hbusy
  obtain hruns | hends := exec_eq_runRequest_or_ends i
  · rw [hruns] at h
    obtain ⟨rfl, why, hstuck⟩ := runOps_stuck_of_runRequest h hreq
    have hb := runRequest_base h
    have hstep : step t = .fault why :=
      calc step t
        _ = proceed t := step_of_no_input (hb.input.trans hinput)
        _ = resume j t := proceed_of_req (hb.fault.trans hfault) (hb.refused.trans hrefused) hreq
        _ = .fault why := resume_of_runOps_stuck hstuck
    rw [hstep]
    exact (eq_of_runOps_stuck hstuck).imp (congrArg _) (congrArg _)
  · obtain ⟨u, hu, hnone⟩ := hends s
    cases h.symm.trans hu
    cases hreq.symm.trans hnone

end Sys2Proof.Machine
end

section
/-! The marks of the violation table (R150): what one operation can mark, that a mark a request adds is added by one
operation of its sequence, and that every data byte after a command of the same sequence finds room in its context. -/

namespace Sys2Proof.Machine

/-! ### Room for data bytes (R111 to R114) -/

/-- The context takes `n` more data bytes without ParamOverrun or ProtocolUnknown; of `n = 0` nothing is said. -/
def HasRoom (c : Config) (n : Nat) (p : ProtoState) : Prop :=
  match p with
  | .unknown => n = 0
  | .param op acc => isWindowCmd c op = true → n = 0 ∨ acc.length + n ≤ 4
  | .stream _ => True

theorem hasRoom_zero (c : Config) (p : ProtoState) : HasRoom c 0 p := by
  cases p <;> simp [HasRoom]

theorem HasRoom.mono {c : Config} {m n : Nat} {p : ProtoState} (h : HasRoom c n p) (hmn : m ≤ n) : HasRoom c m p := by
  cases p with
  | unknown => exact Nat.le_zero.1 (hmn.trans h.le)
  | param op acc =>
    intro hop
    have := h hop
    omega
  | stream r => trivial

section
variable {s : State}

/-- A window command takes four data bytes, any other command as many as follow it (R109). -/
theorem hasRoom_openContext {m : Nat} {b : Byte} (h : isWindowCmd s.cfg b = true → m ≤ 4) :
    HasRoom s.cfg m (openContext b s).proto := by
  have hopened : HasRoom s.cfg m (.param b []) := fun hop => .inr (by simpa using h hop)
  unfold openContext
  split
  · trivial
  · split <;> exact hopened

/-- A data byte takes up the room of one (R111 to R114). -/
theorem HasRoom.trackData {n : Nat} (h : HasRoom s.cfg (n + 1) s.proto) (b : Byte) :
    HasRoom s.cfg n (trackData b s).proto := by
  rcases hp : s.proto with _ | ⟨op, acc⟩ | _ | _ | r <;> rw [hp] at h
  · cases h
  · cases hop : isWindowCmd s.cfg op with
    | false => rw [trackData_of_other b hp hop, hp]; exact h.mono n.le_succ
    | true =>
      have hlen : acc.length + (n + 1) ≤ 4 := (h hop).resolve_left nofun
      have hshort : acc.length < 4 := by omega
      obtain ⟨hproto, -⟩ := latchRange_context op (acc ++ [b]) { s with proto := .param op (acc ++ [b]) }
      simp only [Machine.trackData, hp, hop, if_true, captureParam, if_pos hshort, hproto]
      refine fun _ => .inr ?_
      rw [List.length_append, List.length_singleton]
      omega
  · rw [trackData_of_uncounted b hp, hp]; trivial
  · rw [trackData_of_filled b hp, State.mark_proto, hp]; trivial
  · rw [trackData_of_owed b hp]; trivial

end

/-! ### The marks of one operation (R33, R86, R107 to R114, R123, R125) -/

/-- The marks the tracker can add at a byte: those of closing a context and of opening a stream at Low, those of a context
that is full or unknown at High, none at Undef. -/
inductive TrackMark (c : Config) (p : ProtoState) : DcLevel → Byte → Violation → Prop
  | closedShort (b : Byte) : TrackMark c p .low b .paramIncomplete
  | closedOwing (b : Byte) : TrackMark c p .low b .countMismatch
  | opened : TrackMark c p .low c.opRamwr .windowInvalid
  | filled (b : Byte) : TrackMark c p .high b .countMismatch
  | overrun (b : Byte) (h : ¬ HasRoom c 1 p) : TrackMark c p .high b .paramOverrun
  | unknown (b : Byte) (h : ¬ HasRoom c 1 p) : TrackMark c p .high b .protocolUnknown

/-- The tracker adds none of the marks of the pin (R86, R105). -/
theorem TrackMark.ne_hazard {c : Config} {p : ProtoState} {l : DcLevel} {b : Byte} {v : Violation}
    (h : TrackMark c p l b v) : v ≠ .dcUnconfigured ∧ v ≠ .dcIndeterminate := by
  cases h <;> exact ⟨nofun, nofun⟩

/-- The marks an operation can add in the state it is run in. -/
inductive OpMark (o : Op) (s : State) : Violation → Prop
  | unconfigured (ho : o.isByte = true ∨ ∃ l, o = .driveDc l) (hc : s.dcCfg = false) : OpMark o s .dcUnconfigured
  | indeterminate (ho : o.isByte = true) (hl : byteLevel o s = .undef) : OpMark o s .dcIndeterminate
  | check (ho : o.isCheck = true) : OpMark o s (checkMark o)
  | tracked {v : Violation} (ho : o.isByte = true) (h : TrackMark s.cfg s.proto (byteLevel o s) (opByte o s) v) :
    OpMark o s v

section
variable {s : State} {v : Violation}

theorem has_openContext {b : Byte} (h : (openContext b s).viol.has v = true) :
    s.viol.has v = true ∨ b = s.cfg.opRamwr ∧ v = .windowInvalid := by
  unfold openContext at h
  split at h
  · rename_i hb
    simp only [openStream, State.has_markIf, Bool.or_eq_true, Bool.and_eq_true, decide_eq_true_eq] at h
    obtain ⟨-, rfl⟩ | h := h
    · exact .inr ⟨hb, rfl⟩
    · exact .inl h
  · split at h <;> exact .inl h

theorem has_mark {w : Violation} (h : (s.mark w).viol.has v = true) : s.viol.has v = true ∨ v = w := by
  simp only [State.mark_viol, Marks.has_add, Bool.or_eq_true, decide_eq_true_eq] at h
  exact h.symm.imp_right Eq.symm

theorem has_trackData {b : Byte} (h : (trackData b s).viol.has v = true) :
    s.viol.has v = true ∨ TrackMark s.cfg s.proto .high b v := by
  rcases hp : s.proto with _ | ⟨op, acc⟩ | _ | _ | r
  · rw [trackData_of_unknown b hp] at h
    obtain h | rfl := has_mark h
    · exact .inl h
    · exact .inr (.unknown b nofun)
  · cases hop : isWindowCmd s.cfg op with
    | false => rw [trackData_of_other b hp hop] at h; exact .inl h
    | true =>
      by_cases hlen : acc.length < 4
      · simp only [trackData, hp, hop, if_true, captureParam, if_pos hlen, latchRange_viol] at h
        exact .inl h
      · rw [trackData_of_full b hp hop (Nat.not_lt.1 hlen)] at h
        obtain h | rfl := has_mark h
        · exact .inl h
        · refine .inr (.overrun b fun hroom => ?_)
          have := hroom hop
          omega
  · rw [trackData_of_uncounted b hp] at h; exact .inl h
  · rw [trackData_of_filled b hp] at h
    obtain h | rfl := has_mark h
    · exact .inl h
    · exact .inr (.filled b)
  · rw [trackData_of_owed b hp] at h; exact .inl h

theorem has_track {l : DcLevel} {b : Byte} (h : (track l b s).viol.has v = true) :
    s.viol.has v = true ∨ TrackMark s.cfg s.proto l b v := by
  cases l with
  | low =>
    obtain h | ⟨rfl, rfl⟩ := has_openContext h
    · obtain h | rfl | rfl := has_closeContext h
      · exact .inl h
      · exact .inr (.closedOwing b)
      · exact .inr (.closedShort b)
    · rw [closeContext_cfg]
      exact .inr .opened
  | high => exact has_trackData h
  | undef => exact .inl h

theorem has_driveDc {l : DcLevel} (h : (driveDc l s).viol.has v = true) :
    s.viol.has v = true ∨ v = .dcUnconfigured ∧ s.dcCfg = false := by
  rw [driveDc_viol] at h
  split at h
  · exact .inl h
  · rename_i hc
    exact (has_mark h).imp_right fun hv => ⟨hv, by simpa using hc⟩

/-- The hazards of a level (R86). -/
theorem has_markLevel_cases (h : (markLevel s).viol.has v = true) :
    s.viol.has v = true ∨ v = .dcUnconfigured ∧ s.dcCfg = false ∨ v = .dcIndeterminate ∧ effLevel s = .undef := by
  simp only [has_markLevel, Bool.or_eq_true, Bool.and_eq_true, Bool.not_eq_true', decide_eq_true_eq] at h
  obtain ⟨hl, rfl⟩ | ⟨hc, rfl⟩ | h := h
  · exact .inr (.inr ⟨rfl, hl⟩)
  · exact .inr (.inl ⟨rfl, hc⟩)
  · exact .inl h

/-- The hazards of a level the pin is driven to (R85, R86). -/
theorem has_markLevel_driveDc {l : DcLevel} (h : (markLevel (driveDc l s)).viol.has v = true) :
    s.viol.has v = true ∨ v = .dcUnconfigured ∧ s.dcCfg = false ∨
      v = .dcIndeterminate ∧ effLevel (driveDc l s) = .undef := by
  obtain h | ⟨hv, hc⟩ | h := has_markLevel_cases h
  · exact (has_driveDc h).imp_right .inl
  · exact .inr (.inl ⟨hv, (driveDc_dcCfg l s).symm.trans hc⟩)
  · exact .inr (.inr h)

/-- A byte event that waits has made the marks of its level (R17, R86). -/
theorem has_opWait {o : Op} (h : (opWait o s).viol.has v = true) : s.viol.has v = true ∨ OpMark o s v := by
  have hhazard (ho : o.isByte = true) (h : s.viol.has v = true ∨ v = .dcUnconfigured ∧ s.dcCfg = false ∨
      v = .dcIndeterminate ∧ byteLevel o s = .undef) : s.viol.has v = true ∨ OpMark o s v := by
    obtain h | ⟨rfl, hc⟩ | ⟨rfl, hl⟩ := h
    · exact .inl h
    · exact .inr (.unconfigured (.inl ho) hc)
    · exact .inr (.indeterminate ho hl)
  cases o with
  | command b | data b => exact hhazard rfl (has_markLevel_driveDc h)
  | raw b => exact hhazard rfl (has_markLevel_cases h)
  | elemFirst a | elemSecond a =>
    simp only [opWait] at h
    split at h
    · have h := has_markLevel_driveDc h
      rw [effLevel_elem] at h
      exact hhazard rfl h
    · exact .inl h
  | _ => exact .inl h

theorem afterByte_viol (o : Op) (s : State) : (afterByte o s).viol = s.viol := by
  cases o <;> simp [afterByte]

section
variable {o : Op} (ho : o.isByte = true) (s : State)
include ho

/-- A byte event moves the tracker as its byte at its level (R84). -/
theorem opDone_byte_proto :
    (opDone o s).proto = (track (byteLevel o s) (opByte o s) (opWait o s)).proto := by
  rw [opDone_of_isByte ho, afterByte_proto, ((SameTracker.refl (opWait o s)).sentByte _ _).proto]

theorem opDone_byte_viol : (opDone o s).viol = (track (byteLevel o s) (opByte o s) (opWait o s)).viol := by
  rw [opDone_of_isByte ho, afterByte_viol, ((SameTracker.refl (opWait o s)).sentByte _ _).viol]

end

/-- Everything one operation can mark. -/
theorem has_opDone {o : Op} (h : (opDone o s).viol.has v = true) : s.viol.has v = true ∨ OpMark o s v := by
  cases ho : o.isByte with
  | true =>
    rw [opDone_byte_viol ho] at h
    obtain h | h := has_track h
    · exact has_opWait h
    · rw [(opWait_base o s).cfg, opWait_proto] at h
      exact .inr (.tracked ho h)
  | false =>
    have hcheck (hc : o.isCheck = true) : s.viol.has v = true ∨ OpMark o s v := by
      rw [opDone_check hc, State.has_markIf, Bool.or_eq_true, Bool.and_eq_true, decide_eq_true_eq] at h
      obtain ⟨-, rfl⟩ | h := h
      · exact .inr (.check hc)
      · exact .inl h
    cases o with
    | drawingCheck | streamCheck n => exact hcheck rfl
    | driveDc l =>
      obtain h | ⟨rfl, hc⟩ := has_driveDc h
      · exact .inl h
      · exact .inr (.unconfigured (.inr ⟨l, rfl⟩) hc)
    | command b | data b | raw b | elemFirst a | elemSecond a => cases ho
    | _ => exact .inl h

/-! ### The marks of a request -/

/-- A mark that a sequence adds is added by one of its operations, in the state the operations before it leave. -/
theorem has_opsDone {ops : List Op} (h : (opsDone ops s).viol.has v = true) :
    s.viol.has v = true ∨ ∃ pre o post, ops = pre ++ o :: post ∧ OpMark o (opsDone pre s) v := by
  induction ops generalizing s with
  | nil => exact .inl h
  | cons o rest ih =>
    obtain h | ⟨pre, p, post, rfl, hp⟩ := ih h
    · exact (has_opDone h).imp_right fun ho => ⟨[], o, rest, rfl, ho⟩
    · exact .inr ⟨o :: pre, p, post, rfl, hp⟩

theorem has_runRequest {i : Instr} {ops : List Op} {t : State} (h : runRequest i ops s = .next t)
    (hv : t.viol.has v = true) :
    s.viol.has v = true ∨ ∃ pre o post, ops = pre ++ o :: post ∧ OpMark o (opsDone pre (s.begin i)) v := by
  obtain rfl | ⟨pre, o, post, rfl, -, rfl⟩ := runRequest_cases h
  · exact has_opsDone (s := s.begin i) hv
  · obtain hv | ho := has_opWait hv
    · refine (has_opsDone (s := s.begin i) hv).imp_right ?_
      rintro ⟨pre', p, post', rfl, hp⟩
      exact ⟨pre', p, post' ++ o :: post, by simp, hp⟩
    · exact .inr ⟨pre, o, post, rfl, ho⟩

/-- A mark that a request adds is added by one operation of its sequence, with the pin configured as the request finds
it. -/
theorem has_exec {i : Instr} {t : State} (h : exec i s = .next t) (hv : t.viol.has v = true)
    (hnew : s.viol.has v = false) : ∃ pre o post, sequenceOf s.cfg i = pre ++ o :: post ∧
      (opsDone pre (s.begin i)).dcCfg = s.dcCfg ∧ OpMark o (opsDone pre (s.begin i)) v := by
  have hadded : t.viol ≠ s.viol := fun hviol => by simp [← hviol, hv] at hnew
  obtain ⟨f, a, -, rfl⟩ | ⟨x, y, w, k, buf, -, -, rfl⟩ | hrun := exec_cases h
  · exact absurd rfl hadded
  · exact absurd rfl hadded
  · obtain hs | ⟨pre, o, post, hops, ho⟩ := has_runRequest hrun hv
    · exact absurd hs (by simp [hnew])
    · refine ⟨pre, o, post, hops, (opsDone_sameRegisters pre (s.begin i)).dcCfg fun hm => ?_, ho⟩
      obtain rfl := configureDc_mem_sequenceOf (hops ▸ List.mem_append_left _ hm)
      exact hadded (exec_viol h (.inr (.inr rfl)))

end

/-! ### Sequences whose data bytes find room -/

/-- The operations that send a data byte (R88, R131). -/
def Op.isData : Op → Bool
  | .data _ => true
  | .elemFirst _ => true
  | .elemSecond _ => true
  | _ => false

/-- Where the open context takes `n` more data bytes, every data byte of the sequence finds room: at most four follow a
window command, and no byte is raw. -/
inductive Fits (c : Config) : Nat → List Op → Prop
  | nil (n : Nat) : Fits c n []
  | command {m : Nat} {ops : List Op} (n : Nat) (b : Byte) (hm : isWindowCmd c b = true → m ≤ 4) (h : Fits c m ops) :
    Fits c n (.command b :: ops)
  | data {n : Nat} {o : Op} {ops : List Op} (ho : o.isData = true) (h : Fits c n ops) : Fits c (n + 1) (o :: ops)
  | other {n : Nat} {o : Op} {ops : List Op} (ho : o.isByte = false) (h : Fits c n ops) : Fits c n (o :: ops)

theorem Op.isByte_of_isData {o : Op} (h : o.isData = true) : o.isByte = true := by
  cases o with
  | data b | elemFirst a | elemSecond a => rfl
  | _ => cases h

theorem byteLevel_of_isData {o : Op} (h : o.isData = true) {s : State} (hc : s.dcCfg = true) : byteLevel o s = .high := by
  cases o with
  | data b | elemFirst a | elemSecond a => exact (effLevel_driveDc .high s).trans (if_pos hc)
  | _ => cases h

theorem byteLevel_command {s : State} (hc : s.dcCfg = true) (b : Byte) : byteLevel (.command b) s = .low :=
  (effLevel_driveDc .low s).trans (if_pos hc)

theorem opDone_proto_of_not_isByte {o : Op} (h : o.isByte = false) (s : State) : (opDone o s).proto = s.proto := by
  cases o with
  | command b | data b | raw b | elemFirst a | elemSecond a => cases h
  | _ => simp [opDone, waitEvent]

/-- The tracker keeps the room that `Fits` counts on. -/
theorem Fits.tail {n : Nat} {o : Op} {ops : List Op} {s : State} (h : Fits s.cfg n (o :: ops)) (hc : s.dcCfg = true)
    (hroom : HasRoom s.cfg n s.proto) : ∃ m, Fits s.cfg m ops ∧ HasRoom s.cfg m (opDone o s).proto := by
  have hcfg := (opWait_base o s).cfg
  cases h with
  | @command m _ _ b hm h =>
    refine ⟨m, h, ?_⟩
    have hclosed : (closeContext (opWait (.command b) s)).cfg = s.cfg := (closeContext_cfg _).trans hcfg
    rw [opDone_byte_proto rfl, byteLevel_command hc, ← hclosed]
    exact hasRoom_openContext (by rwa [hclosed])
  | @data n _ _ ho h =>
    refine ⟨n, h, ?_⟩
    rw [opDone_byte_proto (Op.isByte_of_isData ho), byteLevel_of_isData ho hc, ← hcfg]
    exact HasRoom.trackData (by rwa [hcfg, opWait_proto]) _
  | other ho h => exact ⟨n, h, by rwa [opDone_proto_of_not_isByte ho]⟩

/-- A byte that the tracker sees at High in such a sequence finds room. -/
theorem Fits.hasRoom {pre post : List Op} {o : Op} {n : Nat} {s : State} (h : Fits s.cfg n (pre ++ o :: post))
    (hc : s.dcCfg = true) (hroom : HasRoom s.cfg n s.proto) (ho : o.isByte = true)
    (hl : byteLevel o (opsDone pre s) = .high) : HasRoom s.cfg 1 (opsDone pre s).proto := by
  induction pre generalizing n s with
  | nil =>
    cases h with
    | command _ b => cases (byteLevel_command hc b).symm.trans hl
    | data => exact hroom.mono (Nat.le_add_left 1 _)
    | other hb => cases hb.symm.trans ho
  | cons p rest ih =>
    obtain ⟨m, htail, hroom'⟩ := h.tail hc hroom
    have hcfg := (opDone_base p s).cfg
    rw [opsDone_cons, ← hcfg]
    rw [← hcfg] at htail hroom'
    exact ih htail ((opDone_sticky p s).dcCfg hc) hroom' hl

section
variable {c : Config} {n : Nat} {rest : List Op}

theorem Fits.data_append {ops : List Op} (ho : ∀ o ∈ ops, o.isData = true) (h : Fits c n rest) :
    Fits c (n + ops.length) (ops ++ rest) := by
  induction ops with
  | nil => exact h
  | cons o ops ih =>
    rw [List.forall_mem_cons] at ho
    exact .data ho.1 (ih ho.2)

theorem Fits.of_data {ops : List Op} (ho : ∀ o ∈ ops, o.isData = true) : Fits c ops.length ops := by
  simpa using data_append ho (.nil (c := c) 0)

theorem Fits.range (h : Fits c 0 rest) (op : Byte) (a b : Half) : Fits c n (rangeOps op a b ++ rest) :=
  .command (m := 4) n op (fun _ => le_rfl) (.data rfl (.data rfl (.data rfl (.data rfl h))))

theorem isWindowCmd_ramwr (h : c.distinctOps = true) : isWindowCmd c c.opRamwr = false := by
  obtain ⟨⟨-, hcaset⟩, -, hpaset⟩ := windowCmds_ne h
  exact isWindowCmd_eq_false_iff.2 ⟨hcaset.symm, hpaset.symm⟩

/-- The stream that the window bytes open takes whatever follows (R114, R116). -/
theorem Fits.window (hd : c.distinctOps = true) {m : Nat} (h : Fits c m rest) (x y w k : Half) :
    Fits c n (windowOps c x y w k ++ rest) := by
  rw [windowOps, List.append_assoc, List.append_assoc]
  exact .range (.range (.command 0 _ (fun hw => nomatch (isWindowCmd_ramwr hd).symm.trans hw) h) _ _ _) _ _ _

theorem fits_colorOps (color : Half) (k : Nat) : ∃ m, Fits c m (colorOps color k) := by
  refine ⟨_, .other rfl (.of_data fun o ho => ?_)⟩
  obtain ⟨l, hl, ho⟩ := List.mem_flatten.1 ho
  obtain rfl := List.eq_of_mem_replicate hl
  obtain rfl | rfl := List.mem_pair.1 ho <;> rfl

theorem fits_elements (buf : Word) (k : Nat) : ∃ m, Fits c m ((List.range k).flatMap (elementOps buf)) := by
  refine ⟨_, .of_data fun o ho => ?_⟩
  obtain ⟨j, -, ho⟩ := List.mem_flatMap.1 ho
  obtain rfl | rfl := List.mem_pair.1 ho <;> rfl

/-- The commands of a conforming table open no stream and capture no range (R98). -/
theorem ne_of_mem_initTable (hwf : c.wf = true) {op : Byte} {ps : List Byte} (h : .cmd op ps ∈ c.initTable) :
    isWindowCmd c op = false ∧ op ≠ c.opRamwr := by
  obtain ⟨hd, pRst, mid, pOut, pOn, hshape⟩ := distinct_and_shape_of_wf hwf
  have htail : c.initTable = .cmd c.opSwreset pRst :: c.initTable.tail := by rw [hshape.table]; rfl
  rw [htail, List.mem_cons, InitEntry.cmd.injEq] at h
  obtain ⟨rfl, -⟩ | h := h
  · exact ⟨isWindowCmd_swreset hd, opSwreset_ne_opRamwr hd⟩
  · have hplain := hshape.plain_of_mem hd h op ps rfl
    exact ⟨hplain.isWindowCmd, hplain.ramwr⟩

theorem Fits.entries {es : List InitEntry} (hes : ∀ op ps, .cmd op ps ∈ es → isWindowCmd c op = false)
    (h : ∀ n, Fits c n rest) (n : Nat) : Fits c n (es.flatMap entryOps ++ rest) := by
  induction es generalizing n with
  | nil => exact h n
  | cons e es ih =>
    have ih := ih fun op ps hmem => hes op ps (List.mem_cons_of_mem e hmem)
    rw [List.flatMap_cons, List.append_assoc]
    cases e with
    | wait k => exact .other rfl (ih n)
    | cmd op ps =>
      have hop := hes op ps List.mem_cons_self
      refine .command n op (fun hw => nomatch hop.symm.trans hw) (.data_append (fun o ho => ?_) (ih 0))
      obtain ⟨b, -, rfl⟩ := List.mem_map.1 ho
      rfl

end

/-! ### The rows of the table (R150) -/

section
variable {c : Config} {i : Instr}

/-- Every request that can send a data byte in a context it did not open has the marks of a missing context in its row;
every other one finds room for its data bytes. -/
theorem fits_sequenceOf (hwf : c.wf = true) (i : Instr) :
    .paramOverrun ∈ markTable i ∧ .protocolUnknown ∈ markTable i ∨ Fits c 0 (sequenceOf c i) := by
  obtain ⟨hd, -⟩ := distinct_and_shape_of_wf hwf
  cases i with
  | writePixel color | writeColor color count | spiWrite b => exact .inl (by simp [markTable])
  | initialise =>
    exact .inr (.entries (fun op ps h => (ne_of_mem_initTable hwf h).1)
      (fun n => .other rfl (.other rfl (.nil n))) 0)
  | setRotation mode =>
    exact .inr (.other rfl (.command (m := 1) 0 _ (fun _ => by decide) (.data rfl (.other rfl (.nil 0)))))
  | pushPixels x y w k buf =>
    obtain ⟨m, hm⟩ := fits_elements (c := c) buf (pixelCount w k)
    exact .inr (.other rfl (.window hd (.other rfl hm) x y w k))
  | setAddrWindow x y w k =>
    have := Fits.window (n := 0) hd (.nil 0) x y w k
    rw [List.append_nil] at this
    exact .inr (.other rfl this)
  | writeFillRect x y w k color =>
    obtain ⟨m, hm⟩ := fits_colorOps (c := c) color (pixelCount w k)
    exact .inr (.other rfl (.window hd hm x y w k))
  | writeCommand op => exact .inr (.command (m := 0) 0 op (fun _ => by decide) (.nil 0))
  | writeText f a => exact .inr (.nil 0)
  | setCursor x y | dcInit | dcLow | dcHigh => exact .inr (.other rfl (.nil 0))

/-- A request that sends a byte has the marks of the pin and of a stream in its row. -/
theorem mem_markTable_of_byte {o : Op} (h : o ∈ sequenceOf c i) (ho : o.isByte = true) :
    .dcUnconfigured ∈ markTable i ∧ .dcIndeterminate ∈ markTable i ∧ .countMismatch ∈ markTable i := by
  cases i with
  | writeText f a => cases h
  | setCursor x y | dcInit | dcLow | dcHigh =>
    obtain rfl := List.mem_singleton.1 h
    cases ho
  | _ => simp [markTable]

/-- A request that sends a command has the mark of a context cut short in its row, and one that sends memory-write that of
an invalid window. -/
theorem mem_markTable_of_command (hwf : c.wf = true) {b : Byte} (h : .command b ∈ sequenceOf c i) :
    .paramIncomplete ∈ markTable i ∧ (b = c.opRamwr → .windowInvalid ∈ markTable i) := by
  cases i with
  | initialise =>
    refine ⟨by simp [markTable], ?_⟩
    rintro rfl
    obtain h | h := List.mem_append.1 h
    · obtain ⟨e, he, h⟩ := List.mem_flatMap.1 h
      cases e with
      | wait k => simp [entryOps] at h
      | cmd op ps =>
        have hop : c.opRamwr = op := by simpa [entryOps] using h
        exact absurd hop.symm (ne_of_mem_initTable hwf he).2
    · simp at h
  | setRotation mode =>
    refine ⟨by simp [markTable], ?_⟩
    rintro rfl
    have hop : c.opRamwr = c.opMadctl := by simpa [sequenceOf, setRotationSeq] using h
    exact absurd hop.symm (plainOp_madctl (distinct_and_shape_of_wf hwf).1).ramwr
  | writePixel color | writeColor color count =>
    obtain h | h := List.mem_cons.1 h
    · cases h
    · obtain h | ⟨_, h⟩ := mem_colorOps h <;> cases h
  | writeText f a => cases h
  | setCursor x y | dcInit | dcLow | dcHigh => cases List.mem_singleton.1 h
  | _ => simp [markTable]

/-- A request that makes a check has its mark in its row. -/
theorem mem_markTable_of_check {o : Op} (h : o ∈ sequenceOf c i) (ho : o.isCheck = true) :
    checkMark o ∈ markTable i := by
  have hevent : o.isEvent ≠ true := by cases o <;> simp [Op.isCheck, Op.isEvent] at ho ⊢
  have hw := (mem_sequenceOf h).resolve_left hevent
  cases o with
  | drawingCheck | streamCheck n => cases i <;> simp [stateWrites, markTable, checkMark] at hw ⊢
  | _ => cases ho

/-- A byte at Low is a command or a raw byte (R87 to R89). -/
theorem command_or_raw_of_low {o : Op} {s : State} (ho : o.isByte = true) (hl : byteLevel o s = .low) :
    (∃ b, o = .command b) ∨ ∃ b, o = .raw b := by
  cases o with
  | command b => exact .inl ⟨b, rfl⟩
  | raw b => exact .inr ⟨b, rfl⟩
  | data b | elemFirst a | elemSecond a =>
    have hl : effLevel (driveDc .high s) = .low := hl
    rw [effLevel_driveDc] at hl
    split at hl <;> cases hl
  | _ => cases ho

/-- A request that sends a byte at Low has the marks of closing and opening a context in its row. -/
theorem mem_markTable_of_low {o : Op} {u : State} (hwf : c.wf = true) (h : o ∈ sequenceOf c i) (ho : o.isByte = true)
    (hl : byteLevel o u = .low) :
    .paramIncomplete ∈ markTable i ∧ (opByte o u = c.opRamwr → .windowInvalid ∈ markTable i) := by
  obtain ⟨b, rfl⟩ | ⟨b, rfl⟩ := command_or_raw_of_low ho hl
  · exact mem_markTable_of_command hwf h
  · obtain ⟨_, rfl⟩ := raw_mem_sequenceOf h
    simp [markTable]

section
variable {s : State} {pre post : List Op} {o : Op} (hwf : s.cfg.wf = true)
  (hops : sequenceOf s.cfg i = pre ++ o :: post) (hdc : (opsDone pre (s.begin i)).dcCfg = s.dcCfg) (ho : o.isByte = true)
include hwf hops hdc ho

/-- A request that sends a byte at High without room for it has the marks of a missing context in its row. -/
theorem mem_markTable_of_no_room (hl : byteLevel o (opsDone pre (s.begin i)) = .high)
    (hroom : ¬ HasRoom s.cfg 1 (opsDone pre (s.begin i)).proto) :
    .paramOverrun ∈ markTable i ∧ .protocolUnknown ∈ markTable i := by
  refine (fits_sequenceOf hwf i).resolve_right fun hfits => hroom ?_
  cases hc : s.dcCfg with
  | false => cases (byteLevel_of_unconfigured o (hdc.trans hc)).symm.trans hl
  | true =>
    rw [hops] at hfits
    exact Fits.hasRoom (s := s.begin i) hfits hc (hasRoom_zero _ _) ho hl

/-- A mark that the tracker adds at a byte of a request stands in the request's row. -/
theorem mem_markTable_of_tracked {v : Violation}
    (hv : TrackMark s.cfg (opsDone pre (s.begin i)).proto (byteLevel o (opsDone pre (s.begin i)))
      (opByte o (opsDone pre (s.begin i))) v) : v ∈ markTable i := by
  have hmem : o ∈ sequenceOf s.cfg i := hops ▸ List.mem_append_right _ List.mem_cons_self
  obtain ⟨-, -, hcount⟩ := mem_markTable_of_byte hmem ho
  have hlow := mem_markTable_of_low (u := opsDone pre (s.begin i)) hwf hmem ho
  have hhigh := mem_markTable_of_no_room hwf hops hdc ho
  generalize byteLevel o _ = l, opByte o _ = b at hlow hhigh hv
  cases hv with
  | closedOwing | filled => exact hcount
  | closedShort => exact (hlow rfl).1
  | opened => exact (hlow rfl).2 rfl
  | overrun _ hroom => exact (hhigh rfl hroom).1
  | unknown _ hroom => exact (hhigh rfl hroom).2

end

/-- A byte of a request is sent at Undef where the pin is not configured, or raw where the request finds the level so
(R86, R94). -/
theorem unconfigured_or_raw_of_undef {s : State} {pre post : List Op} {o : Op}
    (hops : sequenceOf s.cfg i = pre ++ o :: post) (hdc : (opsDone pre (s.begin i)).dcCfg = s.dcCfg)
    (ho : o.isByte = true) (hl : byteLevel o (opsDone pre (s.begin i)) = .undef) :
    s.dcCfg = false ∨ (∃ b, i = .spiWrite b) ∧ s.dc = .undef := by
  cases hc : s.dcCfg with
  | false => exact .inl rfl
  | true =>
    obtain ⟨b, rfl⟩ : ∃ b, o = .raw b := by
      by_contra hraw
      exact byteLevel_ne_undef ho (fun b hb => hraw ⟨b, hb⟩) (hdc.trans hc) hl
    obtain ⟨b', rfl⟩ := raw_mem_sequenceOf (hops ▸ List.mem_append_right _ List.mem_cons_self)
    cases pre with
    | nil => exact .inr ⟨⟨b', rfl⟩, (effLevel_of_configured (s := s.begin _) hc).symm.trans hl⟩
    | cons p rest => simp [sequenceOf, spiWriteSeq] at hops

end

/-- Settles O54: the mark is added by one operation of the request's sequence, and each kind of mark has its place in the
row. -/
theorem requestsAddOnlyTheMarksOfTheTable : Obligations.RequestsAddOnlyTheMarksOfTheTable := by
  intro i s t v hwf h hv hnew
  obtain ⟨pre, o, post, hops, hdc, hmark⟩ := has_exec h hv hnew
  have hmem : o ∈ sequenceOf s.cfg i := hops ▸ List.mem_append_right _ List.mem_cons_self
  cases hmark with
  | unconfigured ho hc =>
    refine ⟨?_, fun _ => hdc.symm.trans hc, nofun⟩
    obtain ho | ⟨l, rfl⟩ := ho
    · exact (mem_markTable_of_byte hmem ho).1
    · obtain rfl | rfl := driveDc_mem_sequenceOf hmem <;> simp [markTable]
  | indeterminate ho hl =>
    obtain ⟨-, hrow, -⟩ := mem_markTable_of_byte hmem ho
    exact ⟨hrow, nofun, fun _ => unconfigured_or_raw_of_undef hops hdc ho hl⟩
  | check ho =>
    refine ⟨mem_markTable_of_check hmem ho, ?_⟩
    cases o <;> simp [Op.isCheck, checkMark] at ho ⊢
  | tracked ho hv =>
    rw [(opsDone_base pre (s.begin i)).cfg] at hv
    obtain ⟨hconfigured, hdriven⟩ := hv.ne_hazard
    exact ⟨mem_markTable_of_tracked hwf hops hdc ho hv, fun he => absurd he hconfigured, fun he => absurd he hdriven⟩

end Sys2Proof.Machine
end

section
/-! A request from a ready block on a willing transport (R63, R145, R170, R185): its next step runs the request to its end,
and from power-on reset dc_init and initialize so reach the clean-boot state. -/

namespace Sys2Proof.Machine

/-! ### A willing transport (R158, R185) -/

theorem accepts_of_none {s : State} (h : s.accepts = none) (n : Nat) : Accepts n s := fun m hm => by
  rw [h] at hm
  cases hm

theorem opsDone_accepts_of_none {s : State} (h : s.accepts = none) (ops : List Op) : (opsDone ops s).accepts = none := by
  induction ops generalizing s with
  | nil => exact h
  | cons o rest ih => exact ih (by simp [opDone_accepts, h])

/-- A ready block executes the request its port holds, with its words consumed (R63, R72). -/
theorem step_of_decoded {s : State} {i : Instr} {n : Nat} (h : Ready s) (hd : decode s.port = .decoded i n) :
    step s = exec i (consumeWords n s) :=
  stepExecutesTheDecodedRequest s i n h hd (by cases i <;> rfl)

/-! ### Every request finishes (R145, R185) -/

section
variable {i : Instr} {s : State} (hacc : s.accepts = none)
include hacc

/-- A request that reads no host memory waits for the transport alone. -/
theorem exec_finishes_of_no_element (hi : ∀ x y w h buf, i ≠ .pushPixels x y w h buf) :
    ∃ t, exec i s = .next t ∧ t.busy = false := by
  obtain hruns | hends := exec_eq_runRequest_or_ends i
  · have hready := elemsReady_of_all
      (fun o ho => elemReady_of_not_readsElement (readsElement_of_mem_sequenceOf (c := s.cfg) ho hi)) (s.begin i)
    exact ⟨_, (hruns s).trans (runRequest_accepts (accepts_of_none hacc _) hready), rfl⟩
  · obtain ⟨t, ht, hreq⟩ := hends s
    exact ⟨t, ht, by rw [State.busy, hreq]; rfl⟩

/-- push_pixels faults at an odd address, and at an even one reads elements that are all admitted (R130, R131). -/
theorem exec_pushPixels_finishes {x y w h : Half} {buf : Word}
    (hmem : buf.toNat % 2 = 0 → ∃ e, HoldsElements s buf (w.toNat * h.toNat) e) :
    ∃ t, exec (.pushPixels x y w h buf) s = .next t ∧ t.busy = false := by
  obtain heven | hodd := Nat.mod_two_eq_zero_or_one buf.toNat
  · obtain ⟨e, he⟩ := hmem heven
    exact ⟨_, exec_pushPixels heven he (accepts_of_none hacc _), rfl⟩
  · exact ⟨_, oddBufferAddressFaultsBeforeAnyEffect x y w h buf s hodd, rfl⟩

/-- Every request finishes where memory admits what push_pixels reads (R145). -/
theorem exec_finishes (hmem : ∀ x y w h buf, i = .pushPixels x y w h buf → buf.toNat % 2 = 0 →
      ∃ e, HoldsElements s buf (w.toNat * h.toNat) e) :
    ∃ t, exec i s = .next t ∧ t.busy = false := by
  cases i with
  | pushPixels x y w h buf => exact exec_pushPixels_finishes hacc (hmem x y w h buf rfl)
  | _ => exact exec_finishes_of_no_element hacc nofun

end

/-- Settles O56: the request of the next step finishes, and the frame of every request says which register it leaves set. -/
theorem everyRequestFinishesOnAWillingTransport : Obligations.EveryRequestFinishesOnAWillingTransport := by
  intro s i n hready hdecode hacc hmem
  have hstep := step_of_decoded hready hdecode
  obtain ⟨-, hfault, hrefused, -⟩ := hready
  obtain ⟨t, ht, hbusy⟩ := exec_finishes (s := consumeWords n s) hacc hmem
  obtain ⟨-, hport, -⟩ := exec_base ht
  refine ⟨t, hstep.trans ht, hbusy, hport, fun hi => (exec_refused ht hi).trans hrefused,
    fun hi => (exec_fault ht hi).trans hfault, ?_, ?_⟩
  · rintro f a rfl
    cases ht
    rfl
  · rintro x y w h buf rfl hodd
    rw [oddBufferAddressFaultsBeforeAnyEffect x y w h buf _ hodd] at ht
    cases ht
    rfl

/-! ### Boot from reset (R102, R170) -/

/-- A run of one more step goes on from where the step ends. -/
theorem run_succ_of_step {M : Host.Core} {s t : M.State} (h : M.step s = .next t) (k : Nat) :
    M.run (k + 1) s = M.run k t := by
  rw [Host.Core.run, h]

/-- Power-on reset and then dc_init (R90). -/
def configured (c : Config) : State := { State.resetWith c with dcCfg := true }

theorem step_dcInit_of_reset (c : Config) : step (presentWords [0x0000000A, 0x00000001] (State.resetWith c)) =
    .next (presentWords [0x00000001] (configured c)) := by
  have hdecode : decode [0x0000000A, 0x00000001] = .decoded .dcInit 1 := by decide
  rw [step_of_decoded ⟨⟨rfl, rfl, rfl⟩, rfl, rfl, rfl⟩ hdecode, dcInitConfiguresThePin]
  rfl

section
variable {c : Config} (hwf : c.wf = true) (hlast : c.initTable.getLast? = some (.cmd c.opDispon []))
include hwf hlast

/-- The table leaves the tracker at display-on and marks nothing, and moves no other field but the level and the trace. -/
theorem cleanBoot_eq_of_afterTable :
    (setGeometry 0 { afterTable (configured c) with initDone := true }).idle = cleanBoot c := by
  have hbase : SameBase ((configured c).begin .initialise) (afterTable (configured c)) := opsDone_base _ _
  obtain ⟨hx, hy⟩ := (opsDone_sameRegisters (tableOps c) ((configured c).begin .initialise)).cursor
    fun _ _ hm => nomatch isEvent_of_mem_entries hm
  have hacc : (afterTable (configured c)).accepts = none := opsDone_accepts_of_none rfl _
  have htrace : (afterTable (configured c)).trace = tableEvents .low .high c :=
    afterTable_trace_of_configured (s := configured c) rfl
  have hdc := afterTable_dc (s := configured c) rfl hlast
  have ht := inCommand_afterTable (s := configured c) hwf rfl
  simp only [setGeometry, State.idle, cleanBoot, State.resetWith, State.mk.injEq]
  exact ⟨hbase.cfg, rfl, rfl, trivial, hx, hy, trivial, ht.dcCfg, hdc, ht.proto, ht.winSc, ht.winEc, ht.winSp,
    ht.winEp, ht.viol, hbase.fault, hbase.refused, htrace, trivial, trivial, trivial, hbase.port, hbase.input,
    hbase.readData, hbase.mem, hacc⟩

theorem step_initialise_of_configured : step (presentWords [0x00000001] (configured c)) = .next (cleanBoot c) := by
  have hready : Ready (presentWords [0x00000001] (configured c)) := ⟨⟨rfl, rfl, rfl⟩, rfl, rfl, rfl⟩
  have hdecode : decode [0x00000001] = .decoded .initialise 1 := by decide
  calc step (presentWords [0x00000001] (configured c))
    _ = exec .initialise (configured c) := step_of_decoded hready hdecode
    _ = .next (setGeometry 0 { afterTable (configured c) with initDone := true }).idle :=
      exec_initialise (accepts_of_none rfl _)
    _ = .next (cleanBoot c) := by rw [cleanBoot_eq_of_afterTable hwf hlast]

theorem run_boot : Host.Core.run Sys2Proof.core 2 { State.resetWith c with port := [0x0000000A, 0x00000001] } =
    .next (cleanBoot c) := by
  have hfirst : Sys2Proof.core.step (presentWords [0x0000000A, 0x00000001] (State.resetWith c)) = _ :=
    step_dcInit_of_reset c
  have hsecond : Sys2Proof.core.step (presentWords [0x00000001] (configured c)) = _ :=
    step_initialise_of_configured hwf hlast
  exact (run_succ_of_step hfirst 1).trans (run_succ_of_step hsecond 0)

end

/-- A conforming table that selects `MADCTL_ROT[0]` tells the panel the orientation of the clean-boot state (R102). -/
theorem orientationIsCached_cleanBoot {c : Config} (hwf : c.wf = true) (hportrait : c.tableIsPortrait = true) :
    OrientationIsCached (cleanBoot c) :=
  ⟨0, rfl, panelOrientation_tableEvents hwf hportrait []⟩

/-- Settles O24: dc_init configures the pin, and initialize then sends its table with no mark. -/
theorem bootFromResetReachesTheCleanBootState : Obligations.BootFromResetReachesTheCleanBootState := by
  intro c hwf hlast
  have hrun := run_boot hwf hlast
  exact ⟨fun hportrait => ⟨hrun, orientationIsCached_cleanBoot hwf hportrait⟩, ⟨_, _, _, hrun⟩,
    ⟨_, hrun, rfl, rfl, rfl, rfl⟩, rfl⟩

end Sys2Proof.Machine
end
